-- ==== Sys2Proof/Word.lean ====
section
/-! DEFINITION. The byte, the 16-bit count, and tables indexed by a port, a channel or a monitor id. -/

namespace Sys2Proof

/-- A byte on the wire (11 R182). -/
abbrev Byte := BitVec 8

/-- A 16-bit count that wraps from 65,535 to 0 (00 Numbers and values). -/
abbrev Half := BitVec 16

/-- The entry of a table at an index. -/
def look {α : Type} {n : Nat} (v : Vector α n) (i : Fin n) : α := v[i.val]

/-- A table with one entry replaced. -/
def put {α : Type} {n : Nat} (v : Vector α n) (i : Fin n) (x : α) : Vector α n := v.set i.val x

end Sys2Proof
end

