-- ==== Sys2Proof/Config.lean ====
section
/-! DEFINITION. What the manual leaves open: constants without a body, so that no proof can see their values.
`moment` is the model's own count in State, advanced whenever one of these has been read and at every device tick. -/

namespace Sys2Proof

/-- The voltage at which the board holds pin AINk, none where nothing outside the part holds it (02 R45; log 18). -/
opaque Config.outsideVolts (moment : Nat) (pin : Fin 12) : Option Rat

/-- The voltage of a pin that neither the board nor the part holds (02 R25; log 18). -/
opaque Config.floatingVolts (moment : Nat) (pin : Fin 12) : Rat

/-- The supply as the board gives it; `supplyVolts` keeps the operating limits (11.7; log 17). -/
opaque Config.boardSupply (moment : Nat) : Rat

/-- The level a pin reads between the input-low and the input-high limit (02 R45; log 18). -/
opaque Config.freeLevel (moment : Nat) : Bool

/-- The code of a sample where R8 names two codes at once: the voltage is at or below 0 V and at or above an external
reference that is not above 0 V (01 R8; log 17). -/
opaque Config.freeCode (moment : Nat) : Nat

/-- Which of several events that are due at one moment is taken first (log 2, 3). -/
opaque Config.choice (moment : Nat) : Nat

/-- Which of two slots with one phase stands first in an infeasible copy (05 R96, R97; log 14). -/
opaque Config.standsFirst (a b : Fin 24) : Bool

end Sys2Proof
end

