-- ==== Sys2Proof/Syntax.lean ====
section
/-! DEFINITION. The commands the hub takes: one constructor for each row of the opcode table.
A request command is a request frame that arrives on a port: its code is the constructor's, its control byte carries the
link sequence number `q`, and `payload` is its payload as it stands on the wire, the arguments in the order and widths of
11.6.1, most significant byte first (11 R186, R193). -/

namespace Sys2Proof

/-- A link port, 0 to 3; port n carries session n (00 Terms). -/
abbrev Port := Fin 4

/-- A link sequence number, 0 to 15 (11 R186). -/
abbrev LinkSeq := BitVec 4

/-- A channel, 0 to 13; 0 to 11 are pins, 12 is SUPQ, 13 is REFM (00 Terms). -/
abbrev Channel := Fin 14

/-- The kind of a device reset (10 R180, 11 R181). -/
inductive ResetCause where
  | powerOn
  | resetPin
deriving DecidableEq, Repr

/-- The commands. -/
inductive Instr where
  /-- IDENTIFY (R179): no argument. -/
  | identify (p : Port) (q : LinkSeq) (payload : List Byte)
  /-- OPEN (R170, R171): lease length (2), policy (1), watermark (1). -/
  | openSession (p : Port) (q : LinkSeq) (payload : List Byte)
  /-- CLOSE (R176): no argument. -/
  | closeSession (p : Port) (q : LinkSeq) (payload : List Byte)
  /-- RENEW (R174): renewal number (2). -/
  | renew (p : Port) (q : LinkSeq) (payload : List Byte)
  /-- STATUS (R178): no argument. -/
  | status (p : Port) (q : LinkSeq) (payload : List Byte)
  /-- CLAIM (R32): channel (1), mode (1). -/
  | claim (p : Port) (q : LinkSeq) (payload : List Byte)
  /-- RELEASE (R37, R38): channel (1). -/
  | release (p : Port) (q : LinkSeq) (payload : List Byte)
  /-- SUBSCRIBE (R40): channel (1). -/
  | subscribe (p : Port) (q : LinkSeq) (payload : List Byte)
  /-- UNSUBSCRIBE (R41): channel (1). -/
  | unsubscribe (p : Port) (q : LinkSeq) (payload : List Byte)
  /-- PIN_SETUP (R43): channel (1), direction (1), pull-up (1). -/
  | pinSetup (p : Port) (q : LinkSeq) (payload : List Byte)
  /-- PIN_DRIVE (R44): channel (1), level (1). -/
  | pinDrive (p : Port) (q : LinkSeq) (payload : List Byte)
  /-- PIN_READ (R45): channel (1). -/
  | pinRead (p : Port) (q : LinkSeq) (payload : List Byte)
  /-- CHANNEL_INFO (R46): channel (1). -/
  | channelInfo (p : Port) (q : LinkSeq) (payload : List Byte)
  /-- CLAIM_REFERENCE (R51): no argument. -/
  | claimReference (p : Port) (q : LinkSeq) (payload : List Byte)
  /-- RELEASE_REFERENCE (R52): no argument. -/
  | releaseReference (p : Port) (q : LinkSeq) (payload : List Byte)
  /-- SELECT_REFERENCE (R53): reference (1). -/
  | selectReference (p : Port) (q : LinkSeq) (payload : List Byte)
  /-- REFERENCE_READ (R59): no argument. -/
  | referenceRead (p : Port) (q : LinkSeq) (payload : List Byte)
  /-- CLAIM_TIMEBASE (R78): no argument. -/
  | claimTimebase (p : Port) (q : LinkSeq) (payload : List Byte)
  /-- RELEASE_TIMEBASE (R79): no argument. -/
  | releaseTimebase (p : Port) (q : LinkSeq) (payload : List Byte)
  /-- TIMEBASE_READ (R80): no argument. -/
  | timebaseRead (p : Port) (q : LinkSeq) (payload : List Byte)
  /-- STAGE_ADD (R91): channel (1), phase (2), sample ticks (1), resolution (1), decimation (1), frame offset (1). -/
  | stageAdd (p : Port) (q : LinkSeq) (payload : List Byte)
  /-- STAGE_MOVE (R92): slot id (1), phase (2). -/
  | stageMove (p : Port) (q : LinkSeq) (payload : List Byte)
  /-- STAGE_DROP (R92): slot id (1). -/
  | stageDrop (p : Port) (q : LinkSeq) (payload : List Byte)
  /-- STAGE_TIMING (R93): F (2), mode (1), W (2). -/
  | stageTiming (p : Port) (q : LinkSeq) (payload : List Byte)
  /-- STAGE_CLEAR (R94): no argument. -/
  | stageClear (p : Port) (q : LinkSeq) (payload : List Byte)
  /-- COMMIT (R95 to R100): expected count (1). -/
  | commit (p : Port) (q : LinkSeq) (payload : List Byte)
  /-- PLAN_READ (R111): start index (1). -/
  | planRead (p : Port) (q : LinkSeq) (payload : List Byte)
  /-- SUBMIT (R115, R116): tag (1), channel (1), resolution (1), sample ticks (1), N (1). -/
  | submit (p : Port) (q : LinkSeq) (payload : List Byte)
  /-- CANCEL (R118): tag (1). -/
  | cancel (p : Port) (q : LinkSeq) (payload : List Byte)
  /-- FETCH_RESULTS (R139): maximum (1). -/
  | fetchResults (p : Port) (q : LinkSeq) (payload : List Byte)
  /-- PEEK_LATEST (R142): channel (1). -/
  | peekLatest (p : Port) (q : LinkSeq) (payload : List Byte)
  /-- ATTACH_MONITOR (R147): slot id (1), low limit (2), high limit (2), filter count (1). -/
  | attachMonitor (p : Port) (q : LinkSeq) (payload : List Byte)
  /-- DETACH_MONITOR (R149): monitor id (1). -/
  | detachMonitor (p : Port) (q : LinkSeq) (payload : List Byte)
  /-- MONITOR_READ (R150): monitor id (1). -/
  | monitorRead (p : Port) (q : LinkSeq) (payload : List Byte)
  /-- FETCH_EVENTS (R163): maximum (1). -/
  | fetchEvents (p : Port) (q : LinkSeq) (payload : List Byte)
  /-- COLLECT_TRANSACTION (R183): a transaction of `count` whole bytes opened by the collect code. `lands` says that the
  processing of the port's request ends between the select fall and the end of the first byte. -/
  | collectTransaction (p : Port) (lands : Bool) (count : Nat)
  /-- FRAME_DISCARDED (R188): the bytes counted in a request transaction whose frame is damaged or meets Busy. -/
  | frameDiscarded (p : Port) (bytes : List Byte)
  /-- RETRANSMISSION (R189): a whole frame equal to the Last Frame in sequence number, code, length and CRC. -/
  | retransmission (p : Port) (q : LinkSeq) (code : Byte) (payload : List Byte)
  /-- UNKNOWN_REQUEST (R190): a whole new frame whose code names no request. -/
  | unknownRequest (p : Port) (q : LinkSeq) (code : Byte) (payload : List Byte)
  /-- REPLY_STORED (R190): the processing of the port's request ends. -/
  | replyStored (p : Port)
  /-- SYNC_EDGE (R66): a rising edge sampled on SYNC at this tick. -/
  | syncEdge
  /-- DEVICE_RESET (R181): a device reset begins. -/
  | deviceReset (cause : ResetCause)
  /-- RESET_END (R181): the device reset ends. -/
  | resetEnd
  /-- ANALOG_SETTLE_END (R28): the analog settle of a channel ends. -/
  | analogSettleEnd (ch : Channel)
  /-- REFERENCE_SETTLE_END (R57): the reference settle ends. -/
  | referenceSettleEnd
  /-- FRAME_BOUNDARY (R67 to R70): the frame's own count reaches its end. -/
  | frameBoundary
  /-- HUNTING_LIMIT (R75): Hunt Elapsed reaches 4F. -/
  | huntingLimit
  /-- PHASE_ARRIVAL (R65, R105): Elapsed stands at the phase of a slot whose arrival has not been taken. -/
  | phaseArrival
  /-- CONVERSION_END (R10): the conversion in flight reaches its planned end. -/
  | conversionEnd
  /-- LEASE_FALL (R172): the Lease Tick of a session reaches 2,000. -/
  | leaseFall (p : Port)
  /-- LEASE_EXPIRY (R175): the Lease Remaining of a session stands at 0. -/
  | leaseExpiry (p : Port)
deriving DecidableEq, Repr

end Sys2Proof
end

