-- ==== Sys2Proof/Machine/State.lean ====
section
/-! DEFINITION. The state of the hub: every record, queue, table and count the manual gives it, as plain data, and its
value after a device reset. Fields that a state of a record does not have are not there to be read: a session record
carries its lease only while OPEN, a channel its digital part only while DIGITAL. -/

namespace Sys2Proof.Machine

/-! ### Names -/

/-- Status codes of a reply (11 R191). -/
inductive Status where
  | ok | accepted | noSession | revoked | notOwner | inUse | badArgument | full
  | notFound | infeasible | wrongMode | unschedulable | tooLate | badRenewal | unknownRequest | badLength
deriving DecidableEq, Repr

/-- What a result queue does when it is full (07 R134, R135). -/
inductive OverflowPolicy where
  | dropNewest | overwriteOldest
deriving DecidableEq, Repr

/-- The direction of a digital pin (02 R23). -/
inductive Direction where
  | input | output
deriving DecidableEq, Repr

/-- The two references (03 R49). -/
inductive Ref where
  | internal | external
deriving DecidableEq, Repr

/-- The mode of a timing record (04 R63). -/
inductive TimingMode where
  | free | external
deriving DecidableEq, Repr

/-- The resolution of a conversion (01 R1). -/
inductive Resolution where
  | bits8 | bits10 | bits12
deriving DecidableEq, Repr

/-- The averaging count N of a conversion (01 R1). -/
inductive Averaging where
  | one | two | four | eight
deriving DecidableEq, Repr

/-- The zone a monitor has confirmed or a value falls in (08 R145, R151). -/
inductive Zone where
  | unknown | below | inside | above
deriving DecidableEq, Repr

/-- Why a channel was taken from its subscribers (02 R30). -/
inductive LossCause where
  | released | modeChange | ownerEnded
deriving DecidableEq, Repr

/-- The progress of a slot in the current frame (05 R83). -/
inductive Progress where
  | idle | pending | inFlight | done
deriving DecidableEq, Repr

/-- A slot id, 0 to 23 (05 R89). -/
abbrev SlotId := Fin 24

/-- A monitor id, 0 to 7 (08 R145). -/
abbrev MonitorId := Fin 8

/-! ### Sessions (chapter 10) -/

/-- The fields of a session record that are present while it is OPEN (R168). `fallDue` says that the tick at which the Lease
Tick would reach 2,000 has come and the fall of that tick has not been taken (R172; log 12). -/
structure Lease where
  leaseLength : Nat
  leaseRemaining : Nat
  leaseTick : Nat
  fallDue : Bool
  warningSent : Bool
  expectedRenewal : Half
  policy : OverflowPolicy
  watermark : Nat
deriving DecidableEq, Repr

/-- The State of a session record (R168). -/
inductive SessionState where
  | closed
  | opened (lease : Lease)
  | revoked
deriving DecidableEq, Repr

/-- A session record (R168). -/
structure Session where
  state : SessionState
  previousRevoked : Bool
deriving DecidableEq, Repr

/-! ### Channels (chapter 02) -/

/-- The digital part of a DIGITAL channel (R23). -/
structure DigitalPart where
  direction : Direction
  pullUp : Bool
  outputLevel : Bool
deriving DecidableEq, Repr

/-- A channel record: its State with the fields that state has (R23). `due` says that the tick at which the Settle Remaining
would reach 0 has come and the end of the settle has not been taken (R28; log 12). -/
inductive ChannelRec where
  | free
  | digital (owner : Port) (part : DigitalPart)
  | settling (owner : Port) (remaining : Nat) (due : Bool)
  | analog (owner : Port) (subscribers : List Port)
  | reference
deriving DecidableEq, Repr

/-! ### Reference (chapter 03) -/

/-- The State of the reference record with Switch Taken, Target and Settle Remaining where present (R49): `steady r taken`
is INTERNAL or EXTERNAL, the Target of a taken switch being the other; `settling t n due` is TO_EXTERNAL or TO_INTERNAL, and
`due` says that the tick at which the Settle Remaining would reach 0 has come and the end of the settle has not been taken
(R57; log 12). -/
inductive RefState where
  | steady (r : Ref) (switchTaken : Bool)
  | settling (target : Ref) (remaining : Nat) (due : Bool)
deriving DecidableEq, Repr

/-- The reference record (R49). -/
structure Reference where
  state : RefState
  holder : Option Port
deriving DecidableEq, Repr

/-! ### Timebase (chapter 04) -/

/-- A timing record (R63). -/
structure Timing where
  frameLength : Nat
  mode : TimingMode
  window : Nat
deriving DecidableEq, Repr

/-- The State of the timebase record, with Hunt Elapsed in HUNTING (R64). -/
inductive TimebaseState where
  | stopped
  | hunting (huntElapsed : Nat)
  | freeRun
  | locked
  | flywheel
deriving DecidableEq, Repr

/-- The timebase record (R64). `boundaryDue` says that the tick at which Elapsed would reach the end of the frame has come and
the boundary of that tick has not been taken (R68, R69, R71; log 12). -/
structure Timebase where
  state : TimebaseState
  frameNumber : Half
  elapsed : Nat
  boundaryDue : Bool
  missCount : Nat
  spuriousCount : Nat
  holder : Option Port
deriving DecidableEq, Repr

/-! ### Plan (chapter 05) -/

/-- A slot record of a plan (R83). Its Monitor field is held once for the slot id, in the monitor records (R84). -/
structure Slot where
  id : SlotId
  owner : Port
  channel : Channel
  phase : Nat
  sampleTicks : Nat
  resolution : Resolution
  decimation : Nat
  frameOffset : Nat
deriving DecidableEq, Repr

/-- A slot record of the active plan, with its progress in the current frame (R83). Late is set when `lateness` is present.
`arrived` says that the slot's phase arrival has been taken in this frame (01 R19). -/
structure ActiveSlot where
  slot : Slot
  void : Bool
  progress : Progress
  lateness : Option Nat
  missed : Bool
  arrived : Bool
deriving DecidableEq, Repr

/-- An edit of a staging area (R90). -/
inductive Edit where
  | add (slot : Slot)
  | move (id : SlotId) (phase : Nat)
  | drop (id : SlotId)
  | timing (t : Timing)
deriving DecidableEq, Repr

/-! ### On-demand requests and the converter (chapters 06 and 01) -/

/-- An entry of a request queue (06 R113). -/
structure RequestEntry where
  tag : Byte
  channel : Channel
  resolution : Resolution
  sampleTicks : Nat
  averaging : Averaging
  occupancy : Nat
deriving DecidableEq, Repr

/-- Source Kind with the Slot Id or the Tag (01 R4, 07 R127). -/
inductive Source where
  | slot (id : SlotId)
  | request (tag : Byte)
deriving DecidableEq, Repr

/-- A recipient of a conversion with its skip mark (01 R4). -/
structure Recipient where
  session : Port
  skipped : Bool
deriving DecidableEq, Repr

/-- The in-flight record (01 R4). `session` is the slot's owner or the Requester; `slotStands` says that the slot converted
still stands in the active plan (R11); `samples` are the sample codes taken so far, in order (R2, R8). -/
structure InFlight where
  source : Source
  session : Port
  channel : Channel
  resolution : Resolution
  sampleTicks : Nat
  averaging : Averaging
  reference : Ref
  startTick : Nat
  plannedEnd : Nat
  frame : Half
  startPhase : Nat
  lateness : Option Nat
  monitor : Option MonitorId
  recipients : List Recipient
  discard : Bool
  slotStands : Bool
  samples : List Nat
deriving DecidableEq, Repr

/-! ### Results and monitors (chapters 07 and 08) -/

/-- The Flags of a result record (07 R127). -/
structure ResultFlags where
  late : Bool
  missed : Bool
  cancelled : Bool
  unschedulable : Bool
  monitorCross : Bool
deriving DecidableEq, Repr

/-- A result record (07 R127); absent fields are none (R128). -/
structure ResultRecord where
  sequence : Half
  source : Source
  channel : Channel
  resolution : Resolution
  reference : Ref
  averaging : Averaging
  flags : ResultFlags
  value : Option Nat
  frame : Option Half
  startPhase : Option Nat
  lateness : Option Nat
deriving DecidableEq, Repr

/-- A session's result queue with its next sequence number and overflow count (07 R133). -/
structure ResultQueue where
  records : List ResultRecord
  nextSequence : Half
  overflow : Nat
deriving DecidableEq, Repr

/-- The fields of a valid latest-value entry (07 R140). -/
structure LatestValue where
  value : Nat
  resolution : Resolution
  reference : Ref
  frame : Half
  source : Source
  session : Port
deriving DecidableEq, Repr

/-- A monitor record in use (08 R145). -/
structure Monitor where
  owner : Port
  slot : SlotId
  lowLimit : Nat
  highLimit : Nat
  filterCount : Nat
  zone : Zone
  candidate : Option Zone
  runCount : Nat
deriving DecidableEq, Repr

/-! ### Events (chapter 09) -/

/-- The Kind of an event with its kind fields (R159). -/
inductive EventKind where
  | claimDone (channel : Channel)
  | channelLost (channel : Channel) (cause : LossCause)
  | commitApplied (frame : Half)
  | monitorCross (monitor : MonitorId) (slot : SlotId) (zone : Zone) (scaled : Nat)
  | monitorDetached (monitor : MonitorId) (slot : SlotId)
  | syncLost (missCount : Nat)
  | syncLocked
  | referenceChanged (reference : Ref)
  | timebaseStarted
  | timebaseStopped
  | leaseWarning (remaining : Nat)
deriving DecidableEq, Repr

/-- An event record (R158). -/
structure EventRecord where
  kind : EventKind
  frame : Half
deriving DecidableEq, Repr

/-- A session's event queue with its lost count (R160). -/
structure EventQueue where
  records : List EventRecord
  lost : Nat
deriving DecidableEq, Repr

/-! ### Link ports (chapter 11) -/

/-- The Last Frame of a port (R181). -/
structure LastFrame where
  seq : LinkSeq
  code : Byte
  length : Nat
  crc : Byte
deriving DecidableEq, Repr

/-- A reading whose reply reports the state as it stands when the reply is built (R183; log 4). PEEK_LATEST and MONITOR_READ
are none of these: their order rules fix the moment of the taking (07 R129, 08 R150). -/
inductive Reading where
  | status
  | pin (ch : Channel)
  | channel (ch : Channel)
  | reference
  | timebase
  | plan (start : Nat)
deriving DecidableEq, Repr

/-- The answer to a request: decided whole at its taking, or a reading made when the reply is built. -/
inductive Answer where
  | built (status : Status) (payload : List Byte)
  | reading (r : Reading)
deriving DecidableEq, Repr

/-- The request a port is carrying out (R190). -/
structure Processing where
  code : Byte
  seq : LinkSeq
  answer : Answer
deriving DecidableEq, Repr

/-- The select line of a port (R181, R182): high; low, with the status byte that the port captured at the fall; or ignored,
low since before or during a device reset, until it rises (log 5). -/
inductive Select where
  | high
  | low (captured : Byte)
  | ignored
deriving DecidableEq, Repr

/-- The fields of a link port (R181) with its select line. Busy is set while `processing` is present; Reply Ready is set while
a reply is stored and Busy is clear. `sdo` is what the port shifted out in its last transaction (R182 to R184). -/
structure LinkPort where
  storedReply : Option (List Byte)
  lastFrame : Option LastFrame
  processing : Option Processing
  frameError : Bool
  overrun : Bool
  resetSeen : Bool
  linkErrors : Nat
  select : Select
  sdo : List Byte
deriving DecidableEq, Repr

/-! ### The whole state -/

/-- The state of the hub. `pending` is the queue of waiting commands; `clock` counts device ticks and `moment` is the index
of the free values, both the model's own (log 1, 8); the three `sync` fields are the SYNC input (04 R66; log 20), and
`selectInput` holds the levels each port's select will show at the coming ticks, high being true (11 R182; log 5). -/
structure State where
  pending : List Instr
  clock : Nat
  moment : Nat
  inReset : Bool
  resetCause : ResetCause
  syncInput : List Bool
  syncSampledLow : Bool
  syncEdgeSampled : Bool
  selectInput : Vector (List Bool) 4
  ports : Vector LinkPort 4
  sessions : Vector Session 4
  channels : Vector ChannelRec 14
  reference : Reference
  timebase : Timebase
  activeTiming : Timing
  nextTiming : Timing
  activePlan : List ActiveSlot
  nextPlan : List Slot
  staging : Vector (List Edit) 4
  noted : Vector Bool 4
  activationCount : Half
  requests : Vector (List RequestEntry) 4
  inFlight : Option InFlight
  pointer : Port
  results : Vector ResultQueue 4
  latest : Vector (Option LatestValue) 14
  monitors : Vector (Option Monitor) 8
  events : Vector EventQueue 4
deriving DecidableEq, Repr

/-- Why the machine stops. Nothing stops the hub: every wrong request is answered with a refusal code, every damaged frame
is discarded and counted (11 R188, R191), so there is no fault, and leaving faults out is safe. -/
inductive Fault where
deriving DecidableEq, Repr

/-- Why a command has no meaning in the model. -/
inductive Refusal where
  /-- A command whose arm in Dispatch has no meaning yet; raised by that arm alone; safe, since nothing follows from it. -/
  | notModelled (mnemonic : String)
deriving DecidableEq, Repr

/-- A port after a device reset (11 R181): Reset Seen set, everything else absent or clear; its select high. -/
def LinkPort.reset : LinkPort :=
  { storedReply := none, lastFrame := none, processing := none, frameError := false, overrun := false,
    resetSeen := true, linkErrors := 0, select := .high, sdo := [] }

/-- A timing record after a device reset (04 R63, R82). -/
def Timing.reset : Timing := { frameLength := 2000, mode := .free, window := 16 }

/-- The hub right after a power-on reset has ended (01 R21, 02 R48, 03 R62, 04 R82, 05 R112, 06 R126, 07 R144, 08 R157,
09 R167, 10 R180, 11 R181; log 8). -/
def State.reset : State where
  pending := []
  clock := 0
  moment := 0
  inReset := false
  resetCause := .powerOn
  syncInput := []
  syncSampledLow := false
  syncEdgeSampled := false
  selectInput := Vector.replicate 4 []
  ports := Vector.replicate 4 LinkPort.reset
  sessions := Vector.replicate 4 { state := .closed, previousRevoked := false }
  channels := Vector.replicate 14 .free
  reference := { state := .steady .internal false, holder := none }
  timebase :=
    { state := .stopped, frameNumber := 0, elapsed := 0, boundaryDue := false, missCount := 0, spuriousCount := 0,
      holder := none }
  activeTiming := Timing.reset
  nextTiming := Timing.reset
  activePlan := []
  nextPlan := []
  staging := Vector.replicate 4 []
  noted := Vector.replicate 4 false
  activationCount := 0
  requests := Vector.replicate 4 []
  inFlight := none
  pointer := 3
  results := Vector.replicate 4 { records := [], nextSequence := 0, overflow := 0 }
  latest := Vector.replicate 14 none
  monitors := Vector.replicate 8 none
  events := Vector.replicate 4 { records := [], lost := 0 }

end Sys2Proof.Machine
end

