-- ==== Sys2Proof/Machine/Ops.lean ====
section
/-! DEFINITION. Named reads and writes of State, and the shared operations on queues: offering result records (07 R130,
R133 to R135), offering events (09 R160, R161), removal records (06 R120) and withdrawing a channel's users (02 R30). -/

namespace Sys2Proof.Machine

/-- The four ports in ascending order. -/
def allPorts : List Port := [0, 1, 2, 3]

/-- The fourteen channels in ascending order. -/
def allChannels : List Channel := List.finRange 14

/-- The eight monitor ids in ascending order. -/
def allMonitors : List MonitorId := List.finRange 8

/-- The twenty-four slot ids in ascending order. -/
def allSlotIds : List SlotId := List.finRange 24

/-! ### Writes of one table entry -/

def setPort (p : Port) (x : LinkPort) (s : State) : State := { s with ports := put s.ports p x }

def setSession (p : Port) (x : Session) (s : State) : State := { s with sessions := put s.sessions p x }

def setChannel (ch : Channel) (x : ChannelRec) (s : State) : State := { s with channels := put s.channels ch x }

def setStaging (p : Port) (x : List Edit) (s : State) : State := { s with staging := put s.staging p x }

def setNoted (p : Port) (x : Bool) (s : State) : State := { s with noted := put s.noted p x }

def setRequests (p : Port) (x : List RequestEntry) (s : State) : State := { s with requests := put s.requests p x }

def setResults (p : Port) (x : ResultQueue) (s : State) : State := { s with results := put s.results p x }

def setLatest (ch : Channel) (x : Option LatestValue) (s : State) : State := { s with latest := put s.latest ch x }

def setMonitor (m : MonitorId) (x : Option Monitor) (s : State) : State := { s with monitors := put s.monitors m x }

def setEvents (p : Port) (x : EventQueue) (s : State) : State := { s with events := put s.events p x }

/-! ### Reads -/

/-- The lease of an OPEN session, none in CLOSED and REVOKED (10 R168). -/
def Session.lease (x : Session) : Option Lease :=
  match x.state with
  | .opened l => some l
  | .closed => none
  | .revoked => none

/-- The session of a port is OPEN. -/
def isOpen (s : State) (p : Port) : Bool := (look s.sessions p).lease.isSome

/-- The owner of a channel (02 R23). -/
def ChannelRec.owner : ChannelRec → Option Port
  | .free => none
  | .digital o _ => some o
  | .settling o _ _ => some o
  | .analog o _ => some o
  | .reference => none

/-- The subscriber list of a channel, empty except in ANALOG (02 R24). -/
def ChannelRec.subscribers : ChannelRec → List Port
  | .analog _ subs => subs
  | .free => []
  | .digital _ _ => []
  | .settling _ _ _ => []
  | .reference => []

/-- The session holds the channel in ANALOG (05 R86). -/
def holdsAnalog (s : State) (p : Port) (ch : Channel) : Bool :=
  match look s.channels ch with
  | .analog o _ => o == p
  | _ => false

/-- The other reference. -/
def Ref.other : Ref → Ref
  | .internal => .external
  | .external => .internal

/-- The reference unit is steady (03 R49). -/
def RefState.isSteady : RefState → Bool
  | .steady _ taken => !taken
  | .settling _ _ _ => false

/-- The Target, present while Switch Taken is set and in the settling states (03 R49). -/
def RefState.target : RefState → Option Ref
  | .steady r taken => if taken then some r.other else none
  | .settling t _ _ => some t

/-- The reference a record without a value names: the one in use, or the Target of the switch under way (05 R108, 06 R120). -/
def RefState.named : RefState → Ref
  | .steady r taken => if taken then r.other else r
  | .settling t _ _ => t

/-- A frame is running: FREE_RUN, LOCKED or FLYWHEEL (04 4.2). -/
def TimebaseState.running : TimebaseState → Bool
  | .stopped => false
  | .hunting _ => false
  | .freeRun => true
  | .locked => true
  | .flywheel => true

/-- A frame is running. -/
def running (s : State) : Bool := s.timebase.state.running

/-- The tick of the boundary that the frame's own count takes: F in FREE_RUN and FLYWHEEL, F + W in LOCKED (04 R68, R69,
R71). -/
def Timing.frameEnd (t : Timing) : TimebaseState → Nat
  | .locked => t.frameLength + t.window
  | .stopped | .hunting _ | .freeRun | .flywheel => t.frameLength

/-- The ticks passed since the frame started. Elapsed says it, but at the tick of the boundary, before the boundary is taken:
there Elapsed still holds its last value, and one tick more has passed (04 R64, R68; log 12). -/
def Timebase.ticksPassed (b : Timebase) : Nat := if b.boundaryDue then b.elapsed + 1 else b.elapsed

/-- A count that stays at its largest value (R134, R160, R188). -/
def saturate (top n : Nat) : Nat := min top n

/-! ### Result queues -/

/-- A record joins a queue: appended with the next sequence number, or treated as the overflow policy says (R133 to R135). -/
def enqueue (policy : OverflowPolicy) (r : ResultRecord) (q : ResultQueue) : ResultQueue :=
  if q.records.length < 32 then
    { q with records := q.records ++ [{ r with sequence := q.nextSequence }], nextSequence := q.nextSequence + 1 }
  else match policy with
    | .dropNewest => { q with overflow := saturate 65535 (q.overflow + 1) }
    | .overwriteOldest =>
      { records := q.records.drop 1 ++ [{ r with sequence := q.nextSequence }]
        nextSequence := q.nextSequence + 1
        overflow := saturate 65535 (q.overflow + 1) }

/-- The result queues after a record is offered to a session, which takes it only while OPEN (R130). -/
def offeredResult (sessions : Vector Session 4) (rs : Vector ResultQueue 4) (o : ResultRecord × Port) :
    Vector ResultQueue 4 :=
  match (look sessions o.2).lease with
  | some l => put rs o.2 (enqueue l.policy o.1 (look rs o.2))
  | none => rs

/-- Result records offered one after another, each to its session (R130 to R132). -/
def offerResults (offers : List (ResultRecord × Port)) (s : State) : State :=
  { s with results := offers.foldl (offeredResult s.sessions) s.results }

/-! ### Event queues -/

/-- A record joins an event queue, or is discarded and counted when the queue is full (R160). -/
def enqueueEvent (e : EventRecord) (q : EventQueue) : EventQueue :=
  if q.records.length < 16 then { q with records := q.records ++ [e] }
  else { q with lost := saturate 255 (q.lost + 1) }

/-- The event queues after an event is offered to a session, which is offered it only while OPEN (R160). -/
def offeredEvent (sessions : Vector Session 4) (frame : Half) (qs : Vector EventQueue 4) (o : EventKind × Port) :
    Vector EventQueue 4 :=
  if (look sessions o.2).lease.isSome then put qs o.2 (enqueueEvent { kind := o.1, frame } (look qs o.2)) else qs

/-- Events offered one after another, each with the Frame Number of the moment (R158, R160). -/
def offerEvents (offers : List (EventKind × Port)) (s : State) : State :=
  { s with events := offers.foldl (offeredEvent s.sessions s.timebase.frameNumber) s.events }

/-- A broadcast: one event offered to every OPEN session (R161). -/
def broadcast (k : EventKind) (s : State) : State := offerEvents (allPorts.map fun p => (k, p)) s

/-! ### Removal of queued requests -/

/-- The flags of a record with none set. -/
def ResultFlags.none : ResultFlags :=
  { late := false, missed := false, cancelled := false, unschedulable := false, monitorCross := false }

/-- The flags of a CANCELLED record (R128). -/
def ResultFlags.cancelledOnly : ResultFlags := { ResultFlags.none with cancelled := true }

/-- The flags of an UNSCHEDULABLE record (R128). -/
def ResultFlags.unschedulableOnly : ResultFlags := { ResultFlags.none with unschedulable := true }

/-- The flags of a MISSED record (R128). -/
def ResultFlags.missedOnly : ResultFlags := { ResultFlags.none with missed := true }

/-- The removal record of an entry (06 R120). -/
def removalRecord (ref : Ref) (flags : ResultFlags) (e : RequestEntry) : ResultRecord :=
  { sequence := 0, source := .request e.tag, channel := e.channel, resolution := e.resolution, reference := ref,
    averaging := e.averaging, flags, value := none, frame := none, startPhase := none, lateness := none }

/-- The removal records of the entries of one queue that a test picks out, in queue order (R113, R120). -/
def removalOffers (ref : Ref) (flags : ResultFlags) (pick : RequestEntry → Bool)
    (queues : Vector (List RequestEntry) 4) (p : Port) : List (ResultRecord × Port) :=
  ((look queues p).filter pick).map fun e => (removalRecord ref flags e, p)

/-- Queues with the entries that a test picks out removed from one of them; the others keep their order (R113). -/
def withoutEntries (pick : RequestEntry → Bool) (queues : Vector (List RequestEntry) 4) (p : Port) :
    Vector (List RequestEntry) 4 :=
  put queues p ((look queues p).filter fun e => !pick e)

/-- Removes from the queues of the listed sessions, one after another, the entries a test picks out, and offers a removal
record for each (R120, R122). -/
def removeEntries (flags : ResultFlags) (pick : RequestEntry → Bool) (ps : List Port) (s : State) : State :=
  offerResults (ps.flatMap (removalOffers s.reference.state.named flags pick s.requests))
    { s with requests := ps.foldl (withoutEntries pick) s.requests }

/-- The head of some queue has left it (01 R15). -/
def headLeft (before after : Vector (List RequestEntry) 4) : Bool :=
  allPorts.any fun p => (look before p).head?.isSome && (look before p).head? != (look after p).head?

/-! ### Withdrawal of a channel's users -/

/-- The sessions whose queued entries a withdrawal removes: the owner first, but not when it has ended, then the
subscribers in list order (02 R30). -/
def withdrawnFrom (cause : LossCause) (owner : Port) (subs : List Port) : List Port :=
  match cause with
  | .ownerEnded => subs
  | .released => owner :: subs
  | .modeChange => owner :: subs

/-- Withdraws the users of an ANALOG channel: queued entries with CANCELLED records, then CHANNEL_LOST to each subscriber.
The caller gives the channel its new state, which ends the subscriber list (02 R30). -/
def withdrawUsers (ch : Channel) (cause : LossCause) (owner : Port) (subs : List Port) (s : State) : State :=
  offerEvents (subs.map fun p => (.channelLost ch cause, p))
    (removeEntries .cancelledOnly (fun e => e.channel == ch) (withdrawnFrom cause owner subs) s)

/-- How many entries a withdrawal removes (R38). -/
def withdrawnCount (ch : Channel) (ps : List Port) (s : State) : Nat :=
  (ps.flatMap fun p => (look s.requests p).filter fun e => e.channel == ch).length

end Sys2Proof.Machine
end

