-- ==== Sys2Proof/Decode.lean ====
section
/-! DEFINITION. From the bits and bytes of a transaction to a command: CRC-8, request frames and request codes (11 R182, R186 to
R188, 11.6.1). No row of the opcode table gives bits (98_reader.md: `n_rows_with_fixed` is 0), so no table word spells a
command. -/

namespace Sys2Proof

/-- The command a table word spells: none, since no row gives bits. -/
def decodeTableWord (_nbits _w : Nat) : Option Instr := none

/-- One shift of the CRC register, with the polynomial 0x07 combined in when a 1 is shifted out (R187). -/
def crcShift (r : Byte) : Byte := if r.msb then (r <<< 1) ^^^ 0x07 else r <<< 1

/-- One byte taken into the CRC register (R187). -/
def crcByte (r b : Byte) : Byte :=
  crcShift (crcShift (crcShift (crcShift (crcShift (crcShift (crcShift (crcShift (r ^^^ b))))))))

/-- CRC-8 of a run of bytes (R187). -/
def crc8 (bytes : List Byte) : Byte := bytes.foldl crcByte 0

/-- The bytes of a request frame before its CRC: code, control, length, payload (R186). -/
def frameBody (code : Byte) (q : LinkSeq) (payload : List Byte) : List Byte :=
  code :: q.setWidth 8 :: BitVec.ofNat 8 payload.length :: payload

/-- A request frame (R186). -/
def requestFrame (code : Byte) (q : LinkSeq) (payload : List Byte) : List Byte :=
  frameBody code q payload ++ [crc8 (frameBody code q payload)]

/-- The eight bits of a byte, most significant first (R182). -/
def byteBits (b : Byte) : List Bool :=
  [b.getLsbD 7, b.getLsbD 6, b.getLsbD 5, b.getLsbD 4, b.getLsbD 3, b.getLsbD 2, b.getLsbD 1, b.getLsbD 0]

/-- The byte of eight bits, most significant first (R182). -/
def byteOfBits (b7 b6 b5 b4 b3 b2 b1 b0 : Bool) : Byte :=
  BitVec.ofNat 8 (b7.toNat * 128 + b6.toNat * 64 + b5.toNat * 32 + b4.toNat * 16 + b3.toNat * 8 + b2.toNat * 4 + b1.toNat * 2
    + b0.toNat)

/-- The bytes counted of the bits that a master clocks in between the select fall and the select rise: whole bytes only, the
bits of an incomplete last byte being discarded (R182). -/
def wholeBytes : List Bool → List Byte
  | b7 :: b6 :: b5 :: b4 :: b3 :: b2 :: b1 :: b0 :: rest => byteOfBits b7 b6 b5 b4 b3 b2 b1 b0 :: wholeBytes rest
  | _ => []

/-- The code that opens a collect transaction; no request code is 0xF0 (R182). -/
def collectCode : Byte := 0xF0

/-- The bytes counted form a whole, undamaged request frame (R188, second row): its code, link sequence number, payload. -/
def wholeFrame (bytes : List Byte) : Option (Byte × LinkSeq × List Byte) :=
  match bytes with
  | code :: control :: len :: rest =>
    if len.toNat ≤ 16 ∧ rest.length = len.toNat + 1 ∧
        rest.getLast? = some (crc8 (code :: control :: len :: rest.take len.toNat)) ∧ control.toNat < 16 then
      some (code, control.setWidth 4, rest.take len.toNat)
    else none
  | _ => none

/-- The request a code names (11.6.1), none where it names no request. -/
def requestOf (code : Byte) : Option (Port → LinkSeq → List Byte → Instr) :=
  match code.toNat with
  | 0x01 => some .identify
  | 0x02 => some .openSession
  | 0x03 => some .closeSession
  | 0x04 => some .renew
  | 0x05 => some .status
  | 0x10 => some .claim
  | 0x11 => some .release
  | 0x12 => some .subscribe
  | 0x13 => some .unsubscribe
  | 0x14 => some .pinSetup
  | 0x15 => some .pinDrive
  | 0x16 => some .pinRead
  | 0x17 => some .channelInfo
  | 0x20 => some .claimReference
  | 0x21 => some .releaseReference
  | 0x22 => some .selectReference
  | 0x23 => some .referenceRead
  | 0x28 => some .claimTimebase
  | 0x29 => some .releaseTimebase
  | 0x2A => some .timebaseRead
  | 0x30 => some .stageAdd
  | 0x31 => some .stageMove
  | 0x32 => some .stageDrop
  | 0x33 => some .stageTiming
  | 0x34 => some .stageClear
  | 0x35 => some .commit
  | 0x36 => some .planRead
  | 0x40 => some .submit
  | 0x41 => some .cancel
  | 0x48 => some .fetchResults
  | 0x49 => some .peekLatest
  | 0x50 => some .attachMonitor
  | 0x51 => some .detachMonitor
  | 0x52 => some .monitorRead
  | 0x58 => some .fetchEvents
  | _ => none

/-- A code names a request of the table (R190). -/
def namesRequest (code : Byte) : Bool := (requestOf code).isSome

/-- The command that the bytes counted in a transaction make: the first byte decides (R182), and a request transaction
carries a whole frame or is discarded (R188). A transaction without a whole byte makes none. -/
def transactionCommand (p : Port) (bytes : List Byte) : Option Instr :=
  match bytes with
  | [] => none
  | first :: _ =>
    if first = collectCode then some (.collectTransaction p false bytes.length)
    else match wholeFrame bytes with
      | none => some (.frameDiscarded p bytes)
      | some (code, q, payload) =>
        match requestOf code with
        | some request => some (request p q payload)
        | none => some (.unknownRequest p q code payload)

/-- The command that the bits clocked in a transaction make (R182). -/
def transactionOfBits (p : Port) (bits : List Bool) : Option Instr := transactionCommand p (wholeBytes bits)

/-- The port, code, link sequence number and payload of a command that is a new request frame (11.6.1). -/
def frameOf : Instr → Option (Port × Byte × LinkSeq × List Byte)
  | .identify p q b => some (p, 0x01, q, b)
  | .openSession p q b => some (p, 0x02, q, b)
  | .closeSession p q b => some (p, 0x03, q, b)
  | .renew p q b => some (p, 0x04, q, b)
  | .status p q b => some (p, 0x05, q, b)
  | .claim p q b => some (p, 0x10, q, b)
  | .release p q b => some (p, 0x11, q, b)
  | .subscribe p q b => some (p, 0x12, q, b)
  | .unsubscribe p q b => some (p, 0x13, q, b)
  | .pinSetup p q b => some (p, 0x14, q, b)
  | .pinDrive p q b => some (p, 0x15, q, b)
  | .pinRead p q b => some (p, 0x16, q, b)
  | .channelInfo p q b => some (p, 0x17, q, b)
  | .claimReference p q b => some (p, 0x20, q, b)
  | .releaseReference p q b => some (p, 0x21, q, b)
  | .selectReference p q b => some (p, 0x22, q, b)
  | .referenceRead p q b => some (p, 0x23, q, b)
  | .claimTimebase p q b => some (p, 0x28, q, b)
  | .releaseTimebase p q b => some (p, 0x29, q, b)
  | .timebaseRead p q b => some (p, 0x2A, q, b)
  | .stageAdd p q b => some (p, 0x30, q, b)
  | .stageMove p q b => some (p, 0x31, q, b)
  | .stageDrop p q b => some (p, 0x32, q, b)
  | .stageTiming p q b => some (p, 0x33, q, b)
  | .stageClear p q b => some (p, 0x34, q, b)
  | .commit p q b => some (p, 0x35, q, b)
  | .planRead p q b => some (p, 0x36, q, b)
  | .submit p q b => some (p, 0x40, q, b)
  | .cancel p q b => some (p, 0x41, q, b)
  | .fetchResults p q b => some (p, 0x48, q, b)
  | .peekLatest p q b => some (p, 0x49, q, b)
  | .attachMonitor p q b => some (p, 0x50, q, b)
  | .detachMonitor p q b => some (p, 0x51, q, b)
  | .monitorRead p q b => some (p, 0x52, q, b)
  | .fetchEvents p q b => some (p, 0x58, q, b)
  | .unknownRequest p q code b => some (p, code, q, b)
  | .collectTransaction _ _ _ | .frameDiscarded _ _ | .retransmission _ _ _ _ | .replyStored _ | .syncEdge
  | .deviceReset _ | .resetEnd | .analogSettleEnd _ | .referenceSettleEnd | .frameBoundary | .huntingLimit
  | .phaseArrival | .conversionEnd | .leaseFall _ | .leaseExpiry _ => none

end Sys2Proof
end

