-- ==== Sys2Proof/Machine/Wire.lean ====
section
/-! DEFINITION. Fields, records and reply frames as bytes (11 R186, R191 to R193, 11.6). -/

namespace Sys2Proof.Machine

/-- A one-byte field. -/
def byte (n : Nat) : Byte := BitVec.ofNat 8 n

/-- A two-byte field, most significant byte first (R186). -/
def half (n : Nat) : List Byte := [byte (n / 256), byte n]

/-- A three-byte field, most significant byte first (R193). -/
def three (n : Nat) : List Byte := [byte (n / 65536), byte (n / 256), byte n]

/-- A flag reads 1 when set and 0 when clear (R193). -/
def flag (b : Bool) : Byte := if b then 1 else 0

/-- A session or port number; an absent one reads 0 (R193). -/
def portByte (p : Option Port) : Byte := match p with | some n => byte n.val | none => 0

/-- Reply status codes (R191). -/
def Status.code : Status → Byte
  | .ok => 0x00
  | .accepted => 0x01
  | .noSession => 0x80
  | .revoked => 0x81
  | .notOwner => 0x82
  | .inUse => 0x83
  | .badArgument => 0x84
  | .full => 0x85
  | .notFound => 0x86
  | .infeasible => 0x87
  | .wrongMode => 0x88
  | .unschedulable => 0x89
  | .tooLate => 0x8A
  | .badRenewal => 0x8B
  | .unknownRequest => 0x8C
  | .badLength => 0x8D

/-! ### Encodings (11.6.5) -/

def resetCauseByte : ResetCause → Byte
  | .powerOn => 0
  | .resetPin => 1

def sessionStateByte : SessionState → Byte
  | .closed => 0
  | .opened _ => 1
  | .revoked => 2

def policyByte : OverflowPolicy → Byte
  | .dropNewest => 0
  | .overwriteOldest => 1

def channelStateByte : ChannelRec → Byte
  | .free => 0
  | .digital _ _ => 1
  | .settling _ _ _ => 2
  | .analog _ _ => 3
  | .reference => 4

def directionByte : Direction → Byte
  | .input => 0
  | .output => 1

def refByte : Ref → Byte
  | .internal => 0
  | .external => 1

def refStateByte : RefState → Byte
  | .steady .internal _ => 0
  | .settling .external _ _ => 1
  | .steady .external _ => 2
  | .settling .internal _ _ => 3

def timebaseStateByte : TimebaseState → Byte
  | .stopped => 0
  | .hunting _ => 1
  | .freeRun => 2
  | .locked => 3
  | .flywheel => 4

def timingModeByte : TimingMode → Byte
  | .free => 0
  | .external => 1

/-- Bits of a resolution (01 R1); in payloads, the number itself. -/
def Resolution.bits : Resolution → Nat
  | .bits8 => 8
  | .bits10 => 10
  | .bits12 => 12

/-- The averaging count N (01 R1). -/
def Averaging.count : Averaging → Nat
  | .one => 1
  | .two => 2
  | .four => 4
  | .eight => 8

def progressByte : Progress → Byte
  | .idle => 0
  | .pending => 1
  | .inFlight => 2
  | .done => 3

def zoneByte : Zone → Byte
  | .unknown => 0
  | .below => 1
  | .inside => 2
  | .above => 3

def candidateByte : Option Zone → Byte
  | some z => zoneByte z
  | none => 0

def causeByte : LossCause → Byte
  | .released => 0
  | .modeChange => 1
  | .ownerEnded => 2

def sourceKindByte : Source → Byte
  | .slot _ => 0
  | .request _ => 1

def sourceIdByte : Source → Byte
  | .slot id => byte id.val
  | .request tag => tag

/-- A largest gap; an unbounded one reads 0xFFFF (R193). -/
def gapField (g : Option Nat) : List Byte := half (g.getD 0xFFFF)

/-! ### Records -/

/-- Format byte of a result record: resolution in bits 1 to 0, reference in bit 2, averaging in bits 5 to 4 (11.6.2). -/
def formatByte (r : ResultRecord) : Byte :=
  let res := match r.resolution with | .bits8 => 0 | .bits10 => 1 | .bits12 => 2
  let ref := match r.reference with | .internal => 0 | .external => 4
  let avg := match r.averaging with | .one => 0 | .two => 16 | .four => 32 | .eight => 48
  byte (res + ref + avg)

/-- Flags byte of a result record (11.6.2). -/
def resultFlagsByte (f : ResultFlags) : Byte :=
  byte ((if f.late then 1 else 0) + (if f.missed then 2 else 0) + (if f.cancelled then 4 else 0)
    + (if f.unschedulable then 8 else 0) + (if f.monitorCross then 16 else 0))

/-- A result record, 14 bytes (11.6.2); a Start Phase above 65,535 reads 65,535 (R193). -/
def resultBytes (r : ResultRecord) : List Byte :=
  half r.sequence.toNat ++ [sourceKindByte r.source, sourceIdByte r.source, byte r.channel.val, formatByte r,
    resultFlagsByte r.flags] ++ half (r.value.getD 0) ++ half ((r.frame.getD 0).toNat)
    ++ half (min 65535 (r.startPhase.getD 0)) ++ [byte (r.lateness.getD 0)]

/-- Kind code of an event (11.6.3). -/
def kindByte : EventKind → Byte
  | .claimDone _ => 0x01
  | .channelLost _ _ => 0x02
  | .commitApplied _ => 0x03
  | .monitorCross _ _ _ _ => 0x04
  | .monitorDetached _ _ => 0x05
  | .syncLost _ => 0x06
  | .syncLocked => 0x07
  | .referenceChanged _ => 0x08
  | .timebaseStarted => 0x09
  | .timebaseStopped => 0x0A
  | .leaseWarning _ => 0x0B

/-- Kind fields of an event (11.6.3). -/
def kindFields : EventKind → List Byte
  | .claimDone ch => [byte ch.val]
  | .channelLost ch cause => [byte ch.val, causeByte cause]
  | .commitApplied f => half f.toNat
  | .monitorCross m sl z v => [byte m.val, byte sl.val, zoneByte z] ++ half v
  | .monitorDetached m sl => [byte m.val, byte sl.val]
  | .syncLost n => [byte n]
  | .syncLocked => []
  | .referenceChanged r => [refByte r]
  | .timebaseStarted => []
  | .timebaseStopped => []
  | .leaseWarning n => half n

/-- An event record, 4 + k bytes (11.6.3). -/
def eventBytes (e : EventRecord) : List Byte :=
  [kindByte e.kind, byte (kindFields e.kind).length] ++ half e.frame.toNat ++ kindFields e.kind

/-- A timing record in TIMEBASE_READ: F, mode, W (11.6.1). -/
def timingBytes (t : Timing) : List Byte := half t.frameLength ++ [timingModeByte t.mode] ++ half t.window

/-- A reply frame: status, code echo, sequence echo, length, payload, CRC (R186, R187). -/
def replyFrame (status : Status) (code : Byte) (q : LinkSeq) (payload : List Byte) : List Byte :=
  let body := [status.code, code, q.setWidth 8, byte payload.length] ++ payload
  body ++ [crc8 body]

end Sys2Proof.Machine
end

