-- ==== Sys2Proof/Machine/PlanOps.lean ====
section
/-! DEFINITION. Occupancy, feasibility, the largest gap, the slot-id pool and the copy a COMMIT builds (01 R1; 05 R87 to
R89, R96, R97). -/

namespace Sys2Proof.Machine

/-- Conversion ticks of a resolution (R1). -/
def Resolution.ticks : Resolution → Nat
  | .bits8 => 5
  | .bits10 => 6
  | .bits12 => 7

/-- N × (s + c) (R1). -/
def occupancy (res : Resolution) (sampleTicks : Nat) (n : Averaging) : Nat := n.count * (sampleTicks + res.ticks)

/-- The occupancy of a slot (R83). -/
def Slot.occupancy (x : Slot) : Nat := x.sampleTicks + x.resolution.ticks

/-- The end of a slot: its phase plus its occupancy. -/
def Slot.ends (x : Slot) : Nat := x.phase + x.occupancy

/-- The slot is due in a frame (R83). -/
def Slot.due (x : Slot) (frame : Half) : Bool := frame.toNat % x.decimation == x.frameOffset

/-- The limit of a plan under a timing (R87). -/
def Timing.limit (t : Timing) : Nat :=
  match t.mode with
  | .free => t.frameLength
  | .external => t.frameLength - t.window

/-! ### Phase order -/

/-- `a` stands before `b`: the lower phase first; at one phase, as the free choice gives (log 14). -/
def standsBefore (a b : Slot) : Bool :=
  if a.phase = b.phase then Config.standsFirst a.id b.id else decide (a.phase < b.phase)

/-- A slot takes its place in a list that stands in phase order. -/
def insertSlot (x : Slot) : List Slot → List Slot
  | [] => [x]
  | y :: ys => if standsBefore x y then x :: y :: ys else y :: insertSlot x ys

/-- Slots in phase order, lowest first (R85). -/
def inPhaseOrder : List Slot → List Slot
  | [] => []
  | x :: xs => insertSlot x (inPhaseOrder xs)

/-! ### Feasibility and gaps -/

/-- Each slot ends at or before the phase of the slot that follows it (R87, condition 1). -/
def followsOn : List Slot → Bool
  | [] => true
  | [_] => true
  | a :: b :: rest => decide (a.ends ≤ b.phase) && followsOn (b :: rest)

/-- A plan in phase order is feasible under a timing (R87). -/
def feasible (t : Timing) (slots : List Slot) : Bool :=
  followsOn slots
    && (match slots.getLast? with | some l => decide (l.ends ≤ t.limit) | none => true)
    && slots.all (fun x => decide (x.phase < t.frameLength))
    && decide (t.window ≤ t.frameLength / 8)

/-- The distances from each slot's end to the phase of the slot that follows it (R88). -/
def innerGaps : List Slot → List Nat
  | [] => []
  | [_] => []
  | a :: b :: rest => (b.phase - a.ends) :: innerGaps (b :: rest)

/-- The largest gap of slots in phase order under a timing; none when unbounded (R88). -/
def largestGap (t : Timing) (slots : List Slot) : Option Nat :=
  match slots.head?, slots.getLast? with
  | some first, some last => some ((innerGaps slots).foldl max (t.limit + first.phase - last.ends))
  | _, _ => none

/-- The slots of the active plan that are not void. -/
def liveSlots (s : State) : List Slot := (s.activePlan.filter fun a => !a.void).map (·.slot)

/-- The largest gap of the active plan (R88). -/
def activeGap (s : State) : Option Nat := largestGap s.activeTiming (liveSlots s)

/-- The largest gap of the next plan (R98). -/
def nextGap (s : State) : Option Nat := largestGap s.nextTiming s.nextPlan

/-- An occupancy lies within a gap (R88). -/
def withinGap (d : Nat) : Option Nat → Bool
  | none => true
  | some g => decide (d ≤ g)

/-! ### Slot ids -/

/-- The ids that the ADD edits of a staging area reserve (R89). -/
def reservedIds (edits : List Edit) : List SlotId :=
  edits.filterMap fun e => match e with | .add sl => some sl.id | .move _ _ => none | .drop _ => none | .timing _ => none

/-- The id stands in the next plan. -/
def inNext (s : State) (id : SlotId) : Bool := s.nextPlan.any fun sl => sl.id == id

/-- The id stands in the active plan. -/
def inActive (s : State) (id : SlotId) : Bool := s.activePlan.any fun a => a.slot.id == id

/-- The id is reserved by an ADD in some staging area (R89). -/
def isReserved (s : State) (id : SlotId) : Bool := allPorts.any fun p => (reservedIds (look s.staging p)).contains id

/-- The id is free: neither reserved nor naming a slot (R89). -/
def isFreeId (s : State) (id : SlotId) : Bool := !isReserved s id && !inNext s id && !inActive s id

/-- The lowest-numbered free id (R89). -/
def lowestFreeId (s : State) : Option SlotId := allSlotIds.find? (isFreeId s)

/-- The slot of the next plan that an id names. -/
def nextSlot (s : State) (id : SlotId) : Option Slot := s.nextPlan.find? fun sl => sl.id == id

/-- The id of the monitor attached to a slot (R84, R146). -/
def monitorOf (s : State) (id : SlotId) : Option MonitorId :=
  allMonitors.find? fun m => match look s.monitors m with | some r => r.slot == id | none => false

/-- The active plan with one slot's record changed. -/
def updateSlot (id : SlotId) (f : ActiveSlot → ActiveSlot) (plan : List ActiveSlot) : List ActiveSlot :=
  plan.map fun a => if a.slot.id = id then f a else a

/-- A fresh active record of a slot (R84). -/
def ActiveSlot.fresh (sl : Slot) : ActiveSlot :=
  { slot := sl, void := false, progress := .idle, lateness := none, missed := false, arrived := false }

/-! ### The copy of a COMMIT -/

/-- The copy a COMMIT works on: slots and a timing record (R96). The slots are put in phase order when all edits have been
applied, since only then is the copy checked. -/
structure PlanCopy where
  timing : Timing
  slots : List Slot
deriving DecidableEq, Repr

/-- One edit applied to the copy, or the status with which it fails (R96). -/
def applyEdit (s : State) (p : Port) (c : PlanCopy) : Edit → Except Status PlanCopy
  | .add sl => if holdsAnalog s p sl.channel then .ok { c with slots := c.slots ++ [{ sl with owner := p }] }
    else .error .notOwner
  | .move id phase =>
    match c.slots.find? fun sl => sl.id == id with
    | none => .error .notFound
    | some sl =>
      if sl.owner = p then
        .ok { c with slots := c.slots.map fun x => if x.id = id then { x with phase := phase } else x }
      else .error .notOwner
  | .drop id =>
    match c.slots.find? fun sl => sl.id == id with
    | none => .error .notFound
    | some sl => if sl.owner = p then .ok { c with slots := c.slots.filter fun x => x.id != id } else .error .notOwner
  | .timing t => if s.timebase.holder = some p then .ok { c with timing := t } else .error .notOwner

/-- The edits applied one after another from an index on; the first that fails ends the building with its index (R96). -/
def applyEdits (s : State) (p : Port) : Nat → List Edit → PlanCopy → Except (Nat × Status) PlanCopy
  | _, [], c => .ok c
  | i, e :: es, c =>
    match applyEdit s p c e with
    | .ok c' => applyEdits s p (i + 1) es c'
    | .error st => .error (i, st)

/-- Both slots of each adjacent pair in which the earlier ends after the phase of the later (R97). -/
def overlapping : List Slot → List SlotId
  | [] => []
  | [_] => []
  | a :: b :: rest => (if b.phase < a.ends then [a.id, b.id] else []) ++ overlapping (b :: rest)

/-- The last slot ends after the limit, or some phase is F or more (R97). -/
def timingOffends (c : PlanCopy) : Bool :=
  (match c.slots.getLast? with | some l => decide (c.timing.limit < l.ends) | none => false)
    || c.slots.any fun x => decide (c.timing.frameLength ≤ x.phase)

/-- The offending slots of a copy in phase order (R97). -/
def offendingSlots (c : PlanCopy) : List SlotId :=
  overlapping c.slots
    ++ (match c.slots.getLast? with | some l => if c.timing.limit < l.ends then [l.id] else [] | none => [])
    ++ (c.slots.filter fun x => decide (c.timing.frameLength ≤ x.phase)).map (·.id)

/-- The edit is one of those among which the failing edit of INFEASIBLE is found (R97). -/
def editOffends (c : PlanCopy) : Edit → Bool
  | .add sl => (offendingSlots c).contains sl.id
  | .move id _ => (offendingSlots c).contains id
  | .drop _ => false
  | .timing _ => timingOffends c

/-- The failing edit of INFEASIBLE: the lowest index among the edits that offend. Such an edit always exists (R97; log 23). -/
def failingEdit (c : PlanCopy) (edits : List Edit) : Nat := edits.findIdx (editOffends c)

/-- The copy of the next plan with a session's staging area applied and its slots in phase order (R96). -/
def buildCopy (s : State) (p : Port) : Except (Nat × Status) PlanCopy :=
  match applyEdits s p 0 (look s.staging p) { timing := s.nextTiming, slots := s.nextPlan } with
  | .ok c => .ok { c with slots := inPhaseOrder c.slots }
  | .error e => .error e

end Sys2Proof.Machine
end

