-- ==== Sys2Proof/Machine/Arbiter.lean ====
section
/-! DEFINITION. The arbiter: the next reservation, the fit rule, the two grants and the decision (01 R5 to R7, R15 to R20). -/

namespace Sys2Proof.Machine

/-- The frame number and elapsed value recorded at a grant: 0 and 0 while no frame is running (R7). -/
def grantFrame (s : State) : Half := if running s then s.timebase.frameNumber else 0

/-- The Start Phase recorded at a grant (R7). -/
def grantPhase (s : State) : Nat := if running s then s.timebase.elapsed else 0

/-- Lateness of a start: absent at the phase, else the difference up to 255 (R5). -/
def latenessAt (start phase : Nat) : Option Nat := if phase < start then some (min 255 (start - phase)) else none

/-- The recipients of a slot's conversion or miss: the owner, then the channel's subscribers in list order (R5, R108). -/
def slotRecipients (s : State) (sl : Slot) : List Port := sl.owner :: (look s.channels sl.channel).subscribers

/-- The in-flight record of a slot granted now (R5). -/
def slotInFlight (s : State) (sl : Slot) : InFlight :=
  { source := .slot sl.id, session := sl.owner, channel := sl.channel, resolution := sl.resolution,
    sampleTicks := sl.sampleTicks, averaging := .one, reference := s.reference.state.named,
    startTick := s.clock, plannedEnd := s.clock + sl.occupancy, frame := grantFrame s, startPhase := grantPhase s,
    lateness := latenessAt (grantPhase s) sl.phase, monitor := monitorOf s sl.id,
    recipients := (slotRecipients s sl).map fun p => { session := p, skipped := false },
    discard := false, slotStands := true, samples := [] }

/-- The in-flight record of an on-demand request granted now (R6). -/
def requestInFlight (s : State) (p : Port) (e : RequestEntry) : InFlight :=
  { source := .request e.tag, session := p, channel := e.channel, resolution := e.resolution,
    sampleTicks := e.sampleTicks, averaging := e.averaging, reference := s.reference.state.named,
    startTick := s.clock, plannedEnd := s.clock + occupancy e.resolution e.sampleTicks e.averaging,
    frame := grantFrame s, startPhase := grantPhase s, lateness := none, monitor := none,
    recipients := [{ session := p, skipped := false }], discard := false, slotStands := false, samples := [] }

/-- Grants the converter to a PENDING slot: IN_FLIGHT, and LATE where it starts after its phase (R5, R106). -/
def grantSlot (a : ActiveSlot) (s : State) : State :=
  { s with
    inFlight := some (slotInFlight s a.slot)
    activePlan := updateSlot a.slot.id
      (fun x => { x with progress := .inFlight, lateness := latenessAt (grantPhase s) a.slot.phase }) s.activePlan }

/-- Grants the converter to the head entry of a queue, and moves the round-robin pointer to its port (R6, R18). -/
def grantRequest (p : Port) (e : RequestEntry) (rest : List RequestEntry) (s : State) : State :=
  { s with inFlight := some (requestInFlight s p e), requests := put s.requests p rest, pointer := p }

/-- The earliest boundary of the current frame (R20); none while no frame is running. -/
def earliestBoundary (s : State) : Option Nat :=
  match s.timebase.state with
  | .stopped => none
  | .hunting _ => none
  | .freeRun => some s.activeTiming.frameLength
  | .locked => some (s.activeTiming.frameLength - s.activeTiming.window)
  | .flywheel => some (s.activeTiming.frameLength - s.activeTiming.window)

/-- The next reservation on the elapsed count of the current frame (R19). -/
def nextReservation (s : State) : Option Nat :=
  match earliestBoundary s with
  | none => none
  | some b =>
    match s.activePlan.find? fun a => !a.void && !a.arrived with
    | some a => some a.slot.phase
    | none => s.nextPlan.head?.map fun x => b + x.phase

/-- An on-demand request of an occupancy fits at the present tick of the frame (R19; log 12). -/
def fits (s : State) (d : Nat) : Bool :=
  match nextReservation s with
  | none => true
  | some r => decide (s.timebase.ticksPassed + d ≤ r)

/-- The head of the port's queue that may be granted now: its session OPEN, and the head fits (R18). -/
def grantableHead (s : State) (p : Port) : Option (RequestEntry × List RequestEntry) :=
  match look s.requests p with
  | [] => none
  | e :: rest =>
    if isOpen s p && fits s (occupancy e.resolution e.sampleTicks e.averaging) then some (e, rest) else none

/-- The ports in the order of the offer: from the port after the pointer to the port it names (R18). -/
def offerOrder (pointer : Port) : List Port := [pointer + 1, pointer + 2, pointer + 3, pointer]

/-- Offers the converter to the heads of the listed ports in turn (R18). -/
def offerOnDemand (s : State) : List Port → State
  | [] => s
  | p :: ps =>
    match grantableHead s p with
    | some (e, rest) => grantRequest p e rest s
    | none => offerOnDemand s ps

/-- A decision of the arbiter: nothing while the converter is CONVERTING or a switch is taken or settling; else the PENDING
slot with the lowest phase; else on-demand work (R15 to R18). -/
def arbitrate (s : State) : State :=
  if s.inFlight.isSome || !s.reference.state.isSteady then s
  else
    match s.activePlan.find? fun a => a.progress == .pending with
    | some a => grantSlot a s
    | none => offerOnDemand s (offerOrder s.pointer)

/-- A decision where its event has arisen (R15). -/
def arbitrateIf (event : Bool) (s : State) : State := if event then arbitrate s else s

end Sys2Proof.Machine
end

