-- ==== Sys2Proof/Machine/Operands.lean ====
section
/-! DEFINITION. Arguments of requests read from the payload bytes (11 R193, 11.6.5). A byte whose value is no code of its
encoding, or a number outside its range, is none, and the owning rule refuses it BAD_ARGUMENT. -/

namespace Sys2Proof.Machine

/-- A two-byte field, most significant byte first (R186). -/
def be16 (hi lo : Byte) : Nat := hi.toNat * 256 + lo.toNat

/-- A number within a range. -/
def within (lo hi n : Nat) : Option Nat := if lo ≤ n ∧ n ≤ hi then some n else none

/-- A channel, 0 to 13 (02 R31). -/
def channelArg (b : Byte) : Option Channel := if h : b.toNat < 14 then some ⟨b.toNat, h⟩ else none

/-- A slot id, 0 to 23 (05 R92). -/
def slotIdArg (b : Byte) : Option SlotId := if h : b.toNat < 24 then some ⟨b.toNat, h⟩ else none

/-- A monitor id, 0 to 7 (08 R149). -/
def monitorIdArg (b : Byte) : Option MonitorId := if h : b.toNat < 8 then some ⟨b.toNat, h⟩ else none

/-- A two-valued code: 0 or 1. -/
def flagArg (b : Byte) : Option Bool :=
  if b.toNat = 0 then some false else if b.toNat = 1 then some true else none

/-- A claim mode: 0 ANALOG, 1 DIGITAL; true for DIGITAL. -/
def digitalArg (b : Byte) : Option Bool := flagArg b

/-- A direction: 0 INPUT, 1 OUTPUT. -/
def directionArg (b : Byte) : Option Direction := (flagArg b).map fun o => if o then .output else .input

/-- A reference: 0 INTERNAL, 1 EXTERNAL. -/
def referenceArg (b : Byte) : Option Ref := (flagArg b).map fun e => if e then .external else .internal

/-- A timing mode: 0 FREE, 1 EXTERNAL. -/
def timingModeArg (b : Byte) : Option TimingMode := (flagArg b).map fun e => if e then .external else .free

/-- An overflow policy: 0 DROP_NEWEST, 1 OVERWRITE_OLDEST. -/
def policyArg (b : Byte) : Option OverflowPolicy :=
  (flagArg b).map fun o => if o then .overwriteOldest else .dropNewest

/-- A resolution: the number itself, 8, 10 or 12. -/
def resolutionArg (b : Byte) : Option Resolution :=
  if b.toNat = 8 then some .bits8 else if b.toNat = 10 then some .bits10 else if b.toNat = 12 then some .bits12 else none

/-- An averaging count: the number itself, 1, 2, 4 or 8. -/
def averagingArg (b : Byte) : Option Averaging :=
  if b.toNat = 1 then some .one else if b.toNat = 2 then some .two
  else if b.toNat = 4 then some .four else if b.toNat = 8 then some .eight else none

/-- The arguments of STAGE_ADD within their ranges (05 R91), as the slot they describe. -/
def stageAddArgs (p : Port) (id : SlotId) (ch hi lo st res d o : Byte) : Option Slot := do
  let channel ← channelArg ch
  let phase ← within 0 65534 (be16 hi lo)
  let sampleTicks ← within 2 32 st.toNat
  let resolution ← resolutionArg res
  let decimation ← within 1 16 d.toNat
  let frameOffset ← within 0 (decimation - 1) o.toNat
  some { id, owner := p, channel, phase, sampleTicks, resolution, decimation, frameOffset }

/-- The arguments of STAGE_TIMING within their ranges, W against the F of the same edit (04 R63, 05 R93). -/
def timingArgs (fHi fLo m wHi wLo : Byte) : Option Timing := do
  let frameLength ← within 200 65535 (be16 fHi fLo)
  let mode ← timingModeArg m
  let window ← within 0 (frameLength / 8) (be16 wHi wLo)
  some { frameLength, mode, window }

/-- The conversion arguments of SUBMIT within their ranges (06 R115). -/
structure SubmitArgs where
  channel : Channel
  resolution : Resolution
  sampleTicks : Nat
  averaging : Averaging
deriving DecidableEq, Repr

/-- The arguments of SUBMIT after the Tag, every value of which is in range (06 R115). -/
def submitArgs (ch res st n : Byte) : Option SubmitArgs := do
  let channel ← channelArg ch
  let resolution ← resolutionArg res
  let sampleTicks ← within 2 32 st.toNat
  let averaging ← averagingArg n
  some { channel, resolution, sampleTicks, averaging }

/-- The arguments of OPEN within their ranges: lease length, policy, watermark (10 R170). -/
structure OpenArgs where
  leaseLength : Nat
  policy : OverflowPolicy
  watermark : Nat
deriving DecidableEq, Repr

/-- The arguments of OPEN (10 R170). -/
def openArgs (hi lo pol wm : Byte) : Option OpenArgs := do
  let leaseLength ← within 5 5000 (be16 hi lo)
  let policy ← policyArg pol
  let watermark ← within 1 32 wm.toNat
  some { leaseLength, policy, watermark }

/-- The arguments of ATTACH_MONITOR within their ranges: slot id, low limit, high limit, filter count (08 R147). -/
structure MonitorArgs where
  slot : SlotId
  lowLimit : Nat
  highLimit : Nat
  filterCount : Nat
deriving DecidableEq, Repr

/-- The arguments of ATTACH_MONITOR (08 R147). -/
def monitorArgs (id lHi lLo hHi hLo c : Byte) : Option MonitorArgs := do
  let slot ← slotIdArg id
  let highLimit ← within 0 4095 (be16 hHi hLo)
  let lowLimit ← within 0 highLimit (be16 lHi lLo)
  let filterCount ← within 1 8 c.toNat
  some { slot, lowLimit, highLimit, filterCount }

end Sys2Proof.Machine
end

