-- ==== Sys2Proof/Machine/Flags.lean ====
section
/-! DEFINITION. Conditions that the hub shows as bits and lines: the watermark, ALERT, the port status byte, Busy and
Reply Ready, Plan Use, and the condition of a pin. Each is computed from the state it reports (log 21). -/

namespace Sys2Proof.Machine

/-- Busy: the port is carrying out a new request (11 R181). -/
def LinkPort.busy (lp : LinkPort) : Bool := lp.processing.isSome

/-- Reply Ready: a reply is stored and no new request is being carried out (11 R181). -/
def LinkPort.replyReady (lp : LinkPort) : Bool := lp.storedReply.isSome && !lp.busy

/-- The session is at watermark: OPEN with a result count at or above its watermark (07 R138). -/
def atWatermark (s : State) (p : Port) : Bool :=
  match (look s.sessions p).lease with
  | some l => l.watermark ≤ (look s.results p).records.length
  | none => false

/-- The level of a port's ALERT line (09 R164). -/
def alert (s : State) (p : Port) : Bool :=
  match (look s.sessions p).state with
  | .revoked => true
  | .closed => false
  | .opened _ => !(look s.events p).records.isEmpty || atWatermark s p

/-- The port status byte (11 R185). -/
def statusByte (s : State) (p : Port) : Byte :=
  let lp := look s.ports p
  let session := match (look s.sessions p).state with | .closed => 0 | .opened _ => 16 | .revoked => 32
  byte ((if lp.replyReady then 128 else 0) + (if alert s p then 64 else 0) + session
    + (if lp.frameError then 8 else 0) + (if lp.overrun then 4 else 0)
    + (if atWatermark s p then 2 else 0) + (if lp.resetSeen then 1 else 0))

/-- The status byte that the port shifts out in a transaction: the one captured at the select fall; where the select is still
high, the transaction falls and rises within one step, and the byte is composed now (11 R182, R185; log 5). -/
def capturedStatus (s : State) (p : Port) : Byte :=
  match (look s.ports p).select with
  | .low b => b
  | .high => statusByte s p
  | .ignored => statusByte s p

/-- The port drives SDO: no device reset is in progress, and its select is low and not ignored; else SDO is high impedance
(11 R181, R182; log 5). -/
def sdoDriven (s : State) (p : Port) : Bool :=
  !s.inReset && match (look s.ports p).select with | .low _ => true | .high => false | .ignored => false

/-- The port takes a transaction: no device reset is in progress, and its select is not ignored (11 R181). -/
def hears (s : State) (p : Port) : Bool := !s.inReset && (look s.ports p).select != .ignored

/-- The plan check of RELEASE: a slot on the channel stands in the next plan, or in the active plan and is not void
(02 R37). -/
def planUse (s : State) (ch : Channel) : Bool :=
  s.nextPlan.any (fun sl => sl.channel == ch) || s.activePlan.any (fun a => !a.void && a.slot.channel == ch)

/-- The condition of a pin (02 R25). -/
structure PinCondition where
  bufferConnected : Bool
  pullUp : Bool
  driven : Option Bool
deriving DecidableEq, Repr

/-- The condition that a channel's record sets for its pin (02 R25). -/
def pinCondition : ChannelRec → PinCondition
  | .digital _ d =>
    { bufferConnected := true, pullUp := d.pullUp,
      driven := match d.direction with | .output => some d.outputLevel | .input => none }
  | .free => { bufferConnected := false, pullUp := false, driven := none }
  | .settling _ _ _ => { bufferConnected := false, pullUp := false, driven := none }
  | .analog _ _ => { bufferConnected := false, pullUp := false, driven := none }
  | .reference => { bufferConnected := false, pullUp := false, driven := none }

end Sys2Proof.Machine
end

