-- ==== Sys2Proof/Machine/Analog.lean ====
section
/-! DEFINITION. Voltages, sample codes and digital levels (01 R8, R9; 02 R25, R45; 03 R50). Voltages are rational numbers
of volts and come from outside the part: constants of Config read at the present `moment` (log 17, 18). -/

namespace Sys2Proof.Machine

/-- The supply, within the operating limits 3.0 V to 3.6 V (11.7). -/
def supplyVolts (s : State) : Rat := max 3 (min (36 / 10) (Config.boardSupply s.moment))

/-- The voltage on pin AINk: as the board holds it; else as the part drives it; else pulled up; else floating. The manual gives
no output levels (11.7): that level 1 is driven, and a pull-up pulls, to exactly the supply, and level 0 to exactly 0 V, is the
model's choice (log 18). -/
def pinVolts (s : State) (k : Fin 12) : Rat :=
  let c := pinCondition (look s.channels (k.castLE (by decide)))
  match Config.outsideVolts s.moment k with
  | some v => v
  | none =>
    match c.driven with
    | some level => if level then supplyVolts s else 0
    | none => if c.pullUp then supplyVolts s else Config.floatingVolts s.moment k

/-- The level a digital input buffer reads (R45, 11.7). -/
def pinLevel (s : State) (k : Fin 12) : Bool :=
  let v := pinVolts s k
  if 7 / 10 * supplyVolts s < v then true
  else if v < 3 / 10 * supplyVolts s then false
  else Config.freeLevel s.moment

/-- The voltage of a reference: 2.048 V, or the voltage standing on AIN11 (03 R50). -/
def refVolts (s : State) : Ref → Rat
  | .internal => 2048 / 1000
  | .external => pinVolts s 11

/-- The voltage a channel presents (R8): a pin's, one quarter of the supply, or half of the reference. -/
def channelVolts (s : State) (r : Ref) (ch : Channel) : Rat :=
  if h : ch.val < 12 then pinVolts s ⟨ch.val, h⟩
  else if ch.val = 12 then supplyVolts s / 4
  else refVolts s r / 2

/-- The code of a sample of `v` against `vref` (R8): 0 at or below 0 V, the largest code at or above the reference, and
between them the largest integer not greater than v × 2^res / vref. -/
def sampleCode (res : Resolution) (v vref : Rat) (free : Nat) : Nat :=
  if v ≤ 0 ∧ vref ≤ v then free % 2 ^ res.bits
  else if v ≤ 0 then 0
  else if vref ≤ v then 2 ^ res.bits - 1
  else (v * (2 ^ res.bits : Nat) / vref).floor.toNat

/-- One sample of the conversion in flight, taken at the present moment (R8). -/
def takeSample (s : State) (c : InFlight) : Nat :=
  sampleCode c.resolution (channelVolts s c.reference c.channel) (refVolts s c.reference) (Config.freeCode s.moment)

/-- The value of a conversion: the sum of its codes divided by N, remainder discarded (R9). -/
def InFlight.value (c : InFlight) : Nat := c.samples.sum / c.averaging.count

end Sys2Proof.Machine
end

