-- ==== Sys2Proof/Machine/Readings.lean ====
section
/-! DEFINITION. Replies that report records of the hub. STATUS, PIN_READ, CHANNEL_INFO, REFERENCE_READ, TIMEBASE_READ and
PLAN_READ report the state as it stands when the reply is built and stored (11 R183, R190; log 4); PEEK_LATEST and MONITOR_READ
report it as it stands at the taking, as their order rules say (07 R129, 08 R150). -/

namespace Sys2Proof.Machine

/-- STATUS (10 R178). -/
def statusPayload (s : State) (p : Port) : List Byte :=
  let x := look s.sessions p
  let counts := [byte (look s.staging p).length, byte (look s.requests p).length, byte (look s.results p).records.length,
    byte (look s.events p).records.length]
  let errors := half (look s.ports p).linkErrors
  match x.lease with
  | some l =>
    [sessionStateByte x.state, flag x.previousRevoked] ++ half l.leaseLength ++ half l.leaseRemaining ++ [flag l.warningSent]
      ++ half l.expectedRenewal.toNat ++ [policyByte l.policy, byte l.watermark] ++ counts
      ++ half (look s.results p).overflow ++ [byte (look s.events p).lost] ++ errors
  | none => [sessionStateByte x.state, flag x.previousRevoked] ++ List.replicate 16 0 ++ errors

/-- PIN_READ (02 R45): the level at the moment the reply is built, and the digital part; the fields of a digital part that
no longer exists read 0, and the level is then free (log 25). -/
def pinPayload (s : State) (ch : Channel) : List Byte :=
  match look s.channels ch with
  | .digital _ d =>
    [flag (if h : ch.val < 12 then pinLevel s ⟨ch.val, h⟩ else Config.freeLevel s.moment),
      directionByte d.direction, flag d.pullUp, flag d.outputLevel]
  | .free | .settling _ _ _ | .analog _ _ | .reference => [flag (Config.freeLevel s.moment), 0, 0, 0]

/-- The n-th subscriber in list order; an absent one reads 0. -/
def subscriberByte (subs : List Port) (n : Nat) : Byte := portByte subs[n]?

/-- CHANNEL_INFO (02 R46). -/
def channelPayload (s : State) (ch : Channel) : List Byte :=
  let c := look s.channels ch
  let remaining := match c with | .settling _ n _ => byte n | _ => 0
  let part := match c with
    | .digital _ d => [directionByte d.direction, flag d.pullUp, flag d.outputLevel]
    | _ => [0, 0, 0]
  let subs := c.subscribers
  [byte ch.val, channelStateByte c, portByte c.owner, remaining] ++ part
    ++ [byte subs.length, subscriberByte subs 0, subscriberByte subs 1, subscriberByte subs 2, flag (planUse s ch)]

/-- The State, Switch Taken and Target, as the requests of the role report them (03 R51). -/
def refTriple (x : RefState) : List Byte :=
  [refStateByte x, flag (match x with | .steady _ taken => taken | .settling _ _ _ => false),
    match x.target with | some t => refByte t | none => 0]

/-- The Settle Remaining of a settling reference. -/
def RefState.remaining : RefState → Nat
  | .steady _ _ => 0
  | .settling _ n _ => n

/-- REFERENCE_READ (03 R59): the reference in use reads 2, NONE, while a switch is taken or settling. -/
def referencePayload (s : State) : List Byte :=
  let x := s.reference.state
  refTriple x ++ half x.remaining ++ [flag s.reference.holder.isSome, portByte s.reference.holder,
    match x with
    | .steady r false => refByte r
    | .steady _ true => 2
    | .settling _ _ _ => 2]

/-- TIMEBASE_READ (04 R80). -/
def timebasePayload (s : State) : List Byte :=
  let t := s.timebase
  let hunt := match t.state with | .hunting n => n | _ => 0
  [timebaseStateByte t.state] ++ half t.frameNumber.toNat ++ three t.elapsed ++ three hunt
    ++ timingBytes s.activeTiming ++ timingBytes s.nextTiming ++ [byte t.missCount] ++ half t.spuriousCount
    ++ [flag t.holder.isSome, portByte t.holder]

/-- The slot descriptor of a slot of the active plan (05 R111, 11.6.4). -/
def descriptor (s : State) (a : ActiveSlot) : List Byte :=
  let monitor := monitorOf s a.slot.id
  let moved := match nextSlot s a.slot.id with | some n => n.phase != a.slot.phase | none => false
  let flags := (if monitor.isSome then 1 else 0) + (if a.void then 2 else 0) + (if a.lateness.isSome then 4 else 0)
    + (if a.missed then 8 else 0) + (if inNext s a.slot.id then 16 else 0) + (if moved then 32 else 0)
  [byte a.slot.id.val, byte a.slot.owner.val, byte a.slot.channel.val] ++ half a.slot.phase
    ++ [byte a.slot.sampleTicks, byte a.slot.resolution.bits, byte a.slot.decimation, byte a.slot.frameOffset,
      match monitor with | some m => byte m.val | none => 0, byte flags, progressByte a.progress, byte (a.lateness.getD 0)]

/-- PLAN_READ (05 R111): up to four descriptors from the start index on. -/
def planPayload (s : State) (start : Nat) : List Byte :=
  let shown := (s.activePlan.drop start).take 4
  half s.activationCount.toNat ++ half s.timebase.frameNumber.toNat ++ [byte s.activePlan.length, byte shown.length]
    ++ shown.flatMap (descriptor s)

/-- PEEK_LATEST (07 R129, R142): an invalid entry's fields read 0. -/
def latestPayload (s : State) (ch : Channel) : List Byte :=
  match look s.latest ch with
  | none => [byte ch.val] ++ List.replicate 10 0
  | some v =>
    [byte ch.val, 1] ++ half v.value ++ [byte v.resolution.bits, refByte v.reference] ++ half v.frame.toNat
      ++ [sourceKindByte v.source, sourceIdByte v.source, byte v.session.val]

/-- MONITOR_READ (08 R150): the fields of a free record read 0. -/
def monitorPayload (s : State) (m : MonitorId) : List Byte :=
  match look s.monitors m with
  | none => [byte m.val] ++ List.replicate 11 0
  | some r =>
    [byte m.val, 1, byte r.owner.val, byte r.slot.val] ++ half r.lowLimit ++ half r.highLimit
      ++ [byte r.filterCount, zoneByte r.zone, candidateByte r.candidate, byte r.runCount]

/-- The payload of a reading on the state as it stands. -/
def readingPayload (s : State) (p : Port) : Reading → List Byte
  | .status => statusPayload s p
  | .pin ch => pinPayload s ch
  | .channel ch => channelPayload s ch
  | .reference => referencePayload s
  | .timebase => timebasePayload s
  | .plan start => planPayload s start

/-- The status and payload of an answer when its reply is built. -/
def builtAnswer (s : State) (p : Port) : Answer → Status × List Byte
  | .built st payload => (st, payload)
  | .reading r => (.ok, readingPayload s p r)

end Sys2Proof.Machine
end

