-- ==== Sys2Proof/Machine/Ports.lean ====
section
/-! DEFINITION. Link ports: the select line, what a select rise does with a frame, the processing of a request, collect
transactions, and the start and end of a device reset (chapter 11). -/

namespace Sys2Proof.Machine

/-- The next state of a command. -/
abbrev Result := Host.Outcome State Fault Refusal

/-! ### The select line -/

/-- The select of the port rises, and nothing comes of the transaction (R181, R182). -/
def releaseSelect (p : Port) (s : State) : State := setPort p { look s.ports p with select := .high } s

/-- A select sampled at a level: a fall captures the status byte, and a select that falls while a device reset is in progress
is ignored until it rises; a rise without a command ends a transaction in which no whole byte was counted (R181, R182). -/
def Select.sampled (inReset : Bool) (status : Byte) (level : Bool) (x : Select) : Select :=
  if level then .high
  else
    match x with
    | .high => if inReset then .ignored else .low status
    | .low b => .low b
    | .ignored => .ignored

/-- The select of one port sampled at the level that its input shows; an exhausted input keeps the level (log 5). -/
def sampleSelect (s : State) (p : Port) : State :=
  match look s.selectInput p with
  | [] => s
  | level :: rest =>
    { setPort p { look s.ports p with
        select := (look s.ports p).select.sampled s.inReset (statusByte s p) level } s with
      selectInput := put s.selectInput p rest }

/-- Every port's select sampled at a tick (R182: the ports take their transactions independently). -/
def sampleSelects (s : State) : State := allPorts.foldl sampleSelect s

/-- A select at the start of a device reset: one that is low is ignored until it rises (R181). -/
def Select.atReset : Select → Select
  | .high => .high
  | .low _ => .ignored
  | .ignored => .ignored

/-! ### Frames at the select rise -/

/-- What becomes of a whole frame at the select rise (R188, R189). -/
inductive FrameFate where
  | overrun | damaged | again | fresh
deriving DecidableEq, Repr

/-- The Last Frame entry of a frame (R181). -/
def lastFrameOf (code : Byte) (q : LinkSeq) (payload : List Byte) : LastFrame :=
  { seq := q, code, length := payload.length, crc := crc8 (frameBody code q payload) }

/-- The rows of R188 in their order, then the retransmission check of R189; a payload of more than 16 bytes makes a length
byte above 16. -/
def frameFate (lp : LinkPort) (code : Byte) (q : LinkSeq) (payload : List Byte) : FrameFate :=
  if lp.busy then .overrun
  else if 16 < payload.length then .damaged
  else if lp.lastFrame = some (lastFrameOf code q payload) then .again
  else .fresh

/-- A frame discarded for Busy (R188). -/
def LinkPort.overran (lp : LinkPort) : LinkPort :=
  { lp with overrun := true, linkErrors := saturate 65535 (lp.linkErrors + 1) }

/-- A frame discarded for damage (R188). -/
def LinkPort.damaged (lp : LinkPort) : LinkPort :=
  { lp with frameError := true, linkErrors := saturate 65535 (lp.linkErrors + 1) }

/-- A frame taken: Frame Error and Overrun cleared (R188). -/
def LinkPort.took (lp : LinkPort) : LinkPort := { lp with frameError := false, overrun := false }

/-- A new request taken: the Last Frame replaced, the Stored Reply discarded (R189, R190). -/
def LinkPort.tookNew (lp : LinkPort) (f : LastFrame) : LinkPort :=
  { lp.took with lastFrame := some f, storedReply := none }

/-- A request transaction ends: the port has shifted out its status byte, captured at the select fall, and 0x00 for every
further byte, and its select is high (R182, R184). -/
def shiftOut (p : Port) (count : Nat) (s : State) : State :=
  setPort p { look s.ports p with
    select := .high, sdo := capturedStatus s p :: List.replicate (count - 1) 0x00 } s

/-- What the port, the session unit and the owning block make of a new request: the state after it, and the answer. -/
abbrev Decision := State × Answer

/-- A refusal without payload, which changes nothing (R191, R192). -/
def refuse (st : Status) (s : State) : Decision := (s, .built st [])

/-- The port starts carrying out a new request: Busy is set and the answer is held until the reply is stored (R190). -/
def startProcessing (p : Port) (code : Byte) (q : LinkSeq) (d : Decision) : State :=
  setPort p { look d.1.ports p with processing := some { code, seq := q, answer := d.2 } } d.1

/-- A request frame at the select rise (R188 to R190): discarded, recognised as a retransmission, or taken as a new request
and carried out. During a device reset, and with a select low since then, the port takes no transaction (R181). -/
def takeFrame (p : Port) (q : LinkSeq) (code : Byte) (payload : List Byte) (carryOut : State → Decision) (s : State) :
    State :=
  if !hears s p then releaseSelect p s
  else
    let s1 := shiftOut p (4 + payload.length) s
    let lp := look s1.ports p
    match frameFate lp code q payload with
    | .overrun => setPort p lp.overran s1
    | .damaged => setPort p lp.damaged s1
    | .again => setPort p lp.took s1
    | .fresh => startProcessing p code q (carryOut (setPort p (lp.tookNew (lastFrameOf code q payload)) s1))

/-- A request of the table: a length other than the table's is answered BAD_LENGTH before the session unit sees it (R190). -/
def takeRequest (p : Port) (q : LinkSeq) (code : Byte) (n : Nat) (payload : List Byte) (carryOut : State → Decision)
    (s : State) : Result :=
  .next (takeFrame p q code payload (fun x => if payload.length = n then carryOut x else refuse .badLength x) s)

/-- The session unit's table for a request other than IDENTIFY, STATUS and OPEN (10 R169). -/
def inSession (p : Port) (carryOut : State → Decision) (s : State) : Decision :=
  match (look s.sessions p).state with
  | .opened _ => carryOut s
  | .revoked => refuse .revoked s
  | .closed => refuse .noSession s

/-! ### Replies -/

/-- The moment after an answer is built: a reading of a pin has used the free values of its moment. -/
def momentAfter (a : Answer) (moment : Nat) : Nat :=
  match a with
  | .reading (.pin _) => moment + 1
  | _ => moment

/-- The processing of the port's request ends: its reply is built and stored, Busy clears, Reply Ready is set (R190). -/
def storeReply (p : Port) (s : State) : State :=
  match (look s.ports p).processing with
  | none => s
  | some pr =>
    let a := builtAnswer s p pr.answer
    { setPort p { look s.ports p with
        storedReply := some (replyFrame a.1 pr.code pr.seq a.2), processing := none } s with
      moment := momentAfter pr.answer s.moment }

/-- The bytes a collect transaction shifts out after the status byte (R183). -/
def collected (lp : LinkPort) (count : Nat) : List Byte :=
  match lp.storedReply with
  | some reply => if lp.busy then List.replicate count 0xFF else reply ++ List.replicate count 0xFF
  | none => List.replicate count 0xFF

/-! ### Meanings -/

/-- COLLECT_TRANSACTION (R183): the status byte of the select fall, then the Stored Reply if Reply Ready is set at the end of
the first byte. The processing of the port's request may end in between (`lands`). -/
def execCollectTransaction (p : Port) (lands : Bool) (count : Nat) (s : State) : Result :=
  if count == 0 then .next s
  else if !hears s p then .next (releaseSelect p s)
  else
    let s1 := if lands then storeReply p s else s
    let lp := look s1.ports p
    .next (setPort p { lp with select := .high, sdo := (capturedStatus s p :: collected lp count).take count } s1)

/-- FRAME_DISCARDED (R188): Overrun when Busy, else Frame Error when the frame is damaged. A whole frame at a port that is
not Busy is not discarded, and no event arises (log 7). -/
def execFrameDiscarded (p : Port) (bytes : List Byte) (s : State) : Result :=
  if bytes.isEmpty || bytes.head? == some collectCode then .next s
  else if !hears s p then .next (releaseSelect p s)
  else
    let s1 := shiftOut p bytes.length s
    let lp := look s1.ports p
    if lp.busy then .next (setPort p lp.overran s1)
    else if (wholeFrame bytes).isNone then .next (setPort p lp.damaged s1)
    else .next s

/-- RETRANSMISSION (R189): the frame is not carried out and the Stored Reply stays ready. A frame that is a new request is
not a retransmission, and no event arises (log 7). -/
def execRetransmission (p : Port) (q : LinkSeq) (code : Byte) (payload : List Byte) (s : State) : Result :=
  if code == collectCode then .next s
  else if !hears s p then .next (releaseSelect p s)
  else
    let s1 := shiftOut p (4 + payload.length) s
    let lp := look s1.ports p
    match frameFate lp code q payload with
    | .overrun => .next (setPort p lp.overran s1)
    | .damaged => .next (setPort p lp.damaged s1)
    | .again => .next (setPort p lp.took s1)
    | .fresh => .next s

/-- UNKNOWN_REQUEST (R190): a new frame whose code names no request is answered so. A code of the table makes no such event
(log 7). -/
def execUnknownRequest (p : Port) (q : LinkSeq) (code : Byte) (payload : List Byte) (s : State) : Result :=
  if code == collectCode || namesRequest code then .next s
  else .next (takeFrame p q code payload (refuse .unknownRequest) s)

/-- REPLY_STORED (R190). -/
def execReplyStored (p : Port) (s : State) : Result := .next (storeReply p s)

/-- DEVICE_RESET (R181): the reset cause is recorded and every block takes its reset values; the reset is in progress. The
queue of commands, the model's clock and the levels that the board and the masters give SYNC and the selects are outside the
part. -/
def execDeviceReset (cause : ResetCause) (s : State) : Result :=
  .next { State.reset with
    pending := s.pending, clock := s.clock, moment := s.moment, syncInput := s.syncInput, selectInput := s.selectInput,
    ports := s.ports.map fun lp => { LinkPort.reset with select := lp.select.atReset },
    inReset := true, resetCause := cause }

/-- RESET_END (R181): the hub runs from here; a select that is still low stays ignored. -/
def execResetEnd (s : State) : Result := .next { s with inReset := false }

end Sys2Proof.Machine
end

