-- ==== Sys2Proof/Machine/Claims.lean ====
section
/-! DEFINITION. The claim table: CLAIM, RELEASE, SUBSCRIBE, UNSUBSCRIBE, PIN_SETUP, PIN_DRIVE, PIN_READ, CHANNEL_INFO, and
the end of an analog settle (chapter 02). -/

namespace Sys2Proof.Machine

/-- A fresh digital part (R34). -/
def DigitalPart.initial : DigitalPart := { direction := .input, pullUp := false, outputLevel := false }

/-- A channel given a new record, the reply carrying its state. -/
def claimed (ch : Channel) (x : ChannelRec) (st : Status) (s : State) : Decision :=
  (setChannel ch x s, .built st [channelStateByte x])

/-- CLAIM for ANALOG (R32, R33). -/
def claimAnalog (p : Port) (ch : Channel) (s : State) : Decision :=
  match look s.channels ch with
  | .free =>
    if ch.val < 12 then claimed ch (.settling p 240 false) .accepted s else claimed ch (.analog p []) .ok s
  | .reference => refuse .inUse s
  | .settling _ _ _ => refuse .inUse s
  | .digital o _ => if o = p then claimed ch (.settling p 240 false) .accepted s else refuse .inUse s
  | .analog o subs =>
    if o = p then (s, .built .ok [channelStateByte (.analog o subs)]) else refuse .inUse s

/-- The mode change: users withdrawn, then DIGITAL with a fresh digital part (R35). -/
def changeMode (ch : Channel) (owner : Port) (subs : List Port) (s : State) : State :=
  let s1 := setChannel ch (.digital owner .initial) (withdrawUsers ch .modeChange owner subs s)
  arbitrateIf (headLeft s.requests s1.requests) s1

/-- CLAIM for DIGITAL of a pin channel (R32, R34, R35). -/
def claimDigital (p : Port) (ch : Channel) (s : State) : Decision :=
  match look s.channels ch with
  | .free => claimed ch (.digital p .initial) .ok s
  | .reference => refuse .inUse s
  | .settling _ _ _ => refuse .inUse s
  | .digital o d => if o = p then (s, .built .ok [channelStateByte (.digital o d)]) else refuse .inUse s
  | .analog o subs =>
    if o = p then
      if planUse s ch then refuse .inUse s
      else (changeMode ch o subs s, .built .ok [channelStateByte (.digital o .initial)])
    else refuse .inUse s

/-- CLAIM (R32). -/
def claimWith (p : Port) (payload : List Byte) (s : State) : Decision :=
  match payload with
  | [c, m] =>
    match channelArg c, digitalArg m with
    | some ch, some false => claimAnalog p ch s
    | some ch, some true => if 12 ≤ ch.val then refuse .badArgument s else claimDigital p ch s
    | _, _ => refuse .badArgument s
  | _ => refuse .badLength s

/-- The state after a RELEASE of an ANALOG channel (R38). -/
def releaseAnalog (ch : Channel) (owner : Port) (subs : List Port) (s : State) : State :=
  let s1 := setLatest ch none (setChannel ch .free (withdrawUsers ch .released owner subs s))
  arbitrateIf (headLeft s.requests s1.requests) s1

/-- RELEASE of a channel the session owns (R38). -/
def releaseOwned (ch : Channel) (s : State) : Decision :=
  match look s.channels ch with
  | .analog o subs =>
    (releaseAnalog ch o subs s,
      .built .ok [0, byte (withdrawnCount ch (o :: subs) s), byte subs.length])
  | .settling _ _ _ => (setLatest ch none (setChannel ch .free s), .built .ok [1, 0, 0])
  | .digital _ _ => (setLatest ch none (setChannel ch .free s), .built .ok [0, 0, 0])
  | .free => refuse .notOwner s
  | .reference => refuse .notOwner s

/-- RELEASE (R37). -/
def releaseWith (p : Port) (payload : List Byte) (s : State) : Decision :=
  match payload with
  | [c] =>
    match channelArg c with
    | none => refuse .badArgument s
    | some ch =>
      if (look s.channels ch).owner ≠ some p then refuse .notOwner s
      else if planUse s ch then refuse .inUse s
      else releaseOwned ch s
  | _ => refuse .badLength s

/-- SUBSCRIBE (R40). -/
def subscribeWith (p : Port) (payload : List Byte) (s : State) : Decision :=
  match payload with
  | [c] =>
    match channelArg c with
    | none => refuse .badArgument s
    | some ch =>
      match look s.channels ch with
      | .analog o subs =>
        if o = p then refuse .badArgument s
        else if subs.contains p then refuse .badArgument s
        else if 3 ≤ subs.length then refuse .full s
        else (setChannel ch (.analog o (subs ++ [p])) s, .built .ok [byte (subs.length + 1)])
      | .free | .digital _ _ | .settling _ _ _ | .reference => refuse .wrongMode s
  | _ => refuse .badLength s

/-- The state after an UNSUBSCRIBE: the session's entries on the channel removed with CANCELLED records (R41). -/
def unsubscribed (p : Port) (ch : Channel) (s : State) : State :=
  let s1 := removeEntries .cancelledOnly (fun e => e.channel == ch) [p] s
  let s2 := match look s1.channels ch with
    | .analog o subs => setChannel ch (.analog o (subs.filter fun x => x != p)) s1
    | .free | .digital _ _ | .settling _ _ _ | .reference => s1
  arbitrateIf (headLeft s.requests s2.requests) s2

/-- UNSUBSCRIBE (R41). -/
def unsubscribeWith (p : Port) (payload : List Byte) (s : State) : Decision :=
  match payload with
  | [c] =>
    match channelArg c with
    | none => refuse .badArgument s
    | some ch =>
      if (look s.channels ch).subscribers.contains p then
        (unsubscribed p ch s, .built .ok [byte (withdrawnCount ch [p] s)])
      else refuse .notFound s
  | _ => refuse .badLength s

/-- PIN_SETUP (R43). -/
def pinSetupWith (p : Port) (payload : List Byte) (s : State) : Decision :=
  match payload with
  | [c, d, u] =>
    match channelArg c, directionArg d, flagArg u with
    | some ch, some direction, some pullUp =>
      match look s.channels ch with
      | .digital o part =>
        if o = p then (setChannel ch (.digital o { part with direction, pullUp }) s, .built .ok [])
        else refuse .notOwner s
      | .free | .settling _ _ _ | .analog _ _ | .reference => refuse .wrongMode s
    | _, _, _ => refuse .badArgument s
  | _ => refuse .badLength s

/-- PIN_DRIVE (R44). -/
def pinDriveWith (p : Port) (payload : List Byte) (s : State) : Decision :=
  match payload with
  | [c, l] =>
    match channelArg c, flagArg l with
    | some ch, some level =>
      match look s.channels ch with
      | .digital o part =>
        if o = p then
          match part.direction with
          | .input => refuse .wrongMode s
          | .output => (setChannel ch (.digital o { part with outputLevel := level }) s, .built .ok [])
        else refuse .notOwner s
      | .free | .settling _ _ _ | .analog _ _ | .reference => refuse .wrongMode s
    | _, _ => refuse .badArgument s
  | _ => refuse .badLength s

/-- PIN_READ (R45). -/
def pinReadWith (p : Port) (payload : List Byte) (s : State) : Decision :=
  match payload with
  | [c] =>
    match channelArg c with
    | none => refuse .badArgument s
    | some ch =>
      match look s.channels ch with
      | .digital o _ => if o = p then (s, .reading (.pin ch)) else refuse .notOwner s
      | .free | .settling _ _ _ | .analog _ _ | .reference => refuse .wrongMode s
  | _ => refuse .badLength s

/-- CHANNEL_INFO (R46). -/
def channelInfoWith (payload : List Byte) (s : State) : Decision :=
  match payload with
  | [c] =>
    match channelArg c with
    | none => refuse .badArgument s
    | some ch => (s, .reading (.channel ch))
  | _ => refuse .badLength s

/-! ### Meanings -/

/-- CLAIM (R32 to R35). -/
def execClaim (p : Port) (q : LinkSeq) (payload : List Byte) (s : State) : Result :=
  takeRequest p q 0x10 2 payload (inSession p (claimWith p payload)) s

/-- RELEASE (R37, R38). -/
def execRelease (p : Port) (q : LinkSeq) (payload : List Byte) (s : State) : Result :=
  takeRequest p q 0x11 1 payload (inSession p (releaseWith p payload)) s

/-- SUBSCRIBE (R40). -/
def execSubscribe (p : Port) (q : LinkSeq) (payload : List Byte) (s : State) : Result :=
  takeRequest p q 0x12 1 payload (inSession p (subscribeWith p payload)) s

/-- UNSUBSCRIBE (R41). -/
def execUnsubscribe (p : Port) (q : LinkSeq) (payload : List Byte) (s : State) : Result :=
  takeRequest p q 0x13 1 payload (inSession p (unsubscribeWith p payload)) s

/-- PIN_SETUP (R43). -/
def execPinSetup (p : Port) (q : LinkSeq) (payload : List Byte) (s : State) : Result :=
  takeRequest p q 0x14 3 payload (inSession p (pinSetupWith p payload)) s

/-- PIN_DRIVE (R44). -/
def execPinDrive (p : Port) (q : LinkSeq) (payload : List Byte) (s : State) : Result :=
  takeRequest p q 0x15 2 payload (inSession p (pinDriveWith p payload)) s

/-- PIN_READ (R45). -/
def execPinRead (p : Port) (q : LinkSeq) (payload : List Byte) (s : State) : Result :=
  takeRequest p q 0x16 1 payload (inSession p (pinReadWith p payload)) s

/-- CHANNEL_INFO (R46). -/
def execChannelInfo (p : Port) (q : LinkSeq) (payload : List Byte) (s : State) : Result :=
  takeRequest p q 0x17 1 payload (inSession p (channelInfoWith payload)) s

/-- The tick at which the Settle Remaining of a channel would reach 0 has come (R28). -/
def analogSettleDue (s : State) (ch : Channel) : Bool :=
  match look s.channels ch with
  | .settling _ _ due => due
  | _ => false

/-- ANALOG_SETTLE_END (R28): the last fall of the Settle Remaining, to 0, with what it brings (log 6, 12). -/
def execAnalogSettleEnd (ch : Channel) (s : State) : Result :=
  match look s.channels ch with
  | .settling o _ true => .next (offerEvents [(.claimDone ch, o)] (setChannel ch (.analog o []) s))
  | .settling _ _ false | .free | .digital _ _ | .analog _ _ | .reference => .next s

end Sys2Proof.Machine
end

