-- ==== Sys2Proof/Machine/Switch.lean ====
section
/-! DEFINITION. Taking, withdrawing and turning a reference switch, and the loss of the holder (03 R54 to R56). -/

namespace Sys2Proof.Machine

/-- The reference record with another state. -/
def setRefState (x : RefState) (s : State) : State := { s with reference := { s.reference with state := x } }

/-- A settle of 400 ticks toward a reference (R54). -/
def settleToward (t : Ref) : RefState := .settling t 400 false

/-- Takes a switch from a steady state: channel 11 enters REFERENCE for a Target of EXTERNAL, and the settle begins at once
if the converter is IDLE (R54). -/
def takeSwitch (r : Ref) (s : State) : State :=
  let s1 := match r with
    | .internal => setChannel 11 .reference s
    | .external => s
  setRefState (if s.inFlight.isNone then settleToward r.other else .steady r true) s1

/-- Withdraws a switch whose settle has not begun (R55). -/
def withdrawSwitch (r : Ref) (s : State) : State :=
  let s1 := match r with
    | .internal => setChannel 11 .free s
    | .external => s
  setRefState (.steady r false) s1

/-- The settle of a taken switch begins, the converter being IDLE (R54). -/
def beginSettle (s : State) : State :=
  match s.reference.state with
  | .steady r true => setRefState (settleToward r.other) s
  | .steady _ false => s
  | .settling _ _ _ => s

/-- What the loss of the holder does to the switch (R56). -/
def revertSwitch (s : State) : State :=
  match s.reference.state with
  | .steady .internal false => s
  | .steady .internal true => withdrawSwitch .internal s
  | .steady .external false => takeSwitch .external s
  | .steady .external true => s
  | .settling .external _ _ => setRefState (settleToward .internal) s
  | .settling .internal _ _ => s

/-- The loss of the holder takes or turns a switch toward INTERNAL, or withdraws one toward EXTERNAL (R52). -/
def reverts : RefState → Bool
  | .steady .internal false => false
  | .steady .internal true => true
  | .steady .external false => true
  | .steady .external true => false
  | .settling .external _ _ => true
  | .settling .internal _ _ => false

/-- The loss of the holder (R56). -/
def loseHolder (s : State) : State :=
  revertSwitch { s with reference := { s.reference with holder := none } }

end Sys2Proof.Machine
end

