-- ==== Sys2Proof/Machine/References.lean ====
section
/-! DEFINITION. The reference unit: CLAIM_REFERENCE, RELEASE_REFERENCE, SELECT_REFERENCE, REFERENCE_READ, and the end of a
reference settle (chapter 03). -/

namespace Sys2Proof.Machine

/-- CLAIM_REFERENCE (R51). -/
def claimReferenceWith (p : Port) (s : State) : Decision :=
  match s.reference.holder with
  | none => ({ s with reference := { s.reference with holder := some p } }, .built .ok (refTriple s.reference.state))
  | some h =>
    if h = p then (s, .built .ok (refTriple s.reference.state)) else (s, .built .inUse (refTriple s.reference.state))

/-- RELEASE_REFERENCE (R52). -/
def releaseReferenceWith (p : Port) (s : State) : Decision :=
  if s.reference.holder = some p then
    let s1 := loseHolder s
    (s1, .built .ok (flag (reverts s.reference.state) :: refTriple s1.reference.state))
  else refuse .notOwner s

/-- A reply of SELECT_REFERENCE: the State, Switch Taken, Target and Settle Remaining after the request. -/
def selected (st : Status) (s : State) : Decision :=
  (s, .built st (refTriple s.reference.state ++ half s.reference.state.remaining))

/-- SELECT_REFERENCE of the holder with the argument EXTERNAL (R53). -/
def selectExternal (s : State) : Decision :=
  match s.reference.state with
  | .steady .internal false =>
    match look s.channels 11 with
    | .free => selected .accepted (takeSwitch .internal s)
    | .digital _ _ | .settling _ _ _ | .analog _ _ | .reference => refuse .inUse s
  | .steady .internal true => selected .accepted s
  | .steady .external false => selected .ok s
  | .steady .external true => selected .ok (withdrawSwitch .external s)
  | .settling .external _ _ => selected .accepted s
  | .settling .internal _ _ => selected .accepted (setRefState (settleToward .external) s)

/-- SELECT_REFERENCE of the holder with the argument INTERNAL (R53). -/
def selectInternal (s : State) : Decision :=
  match s.reference.state with
  | .steady .internal false => selected .ok s
  | .steady .internal true => selected .ok (withdrawSwitch .internal s)
  | .steady .external false => selected .accepted (takeSwitch .external s)
  | .steady .external true => selected .accepted s
  | .settling .external _ _ => selected .accepted (setRefState (settleToward .internal) s)
  | .settling .internal _ _ => selected .accepted s

/-- SELECT_REFERENCE (R53). -/
def selectReferenceWith (p : Port) (payload : List Byte) (s : State) : Decision :=
  match payload with
  | [b] =>
    match referenceArg b with
    | none => refuse .badArgument s
    | some r =>
      if s.reference.holder = some p then
        match r with
        | .external => selectExternal s
        | .internal => selectInternal s
      else refuse .notOwner s
  | _ => refuse .badLength s

/-! ### Meanings -/

/-- CLAIM_REFERENCE (R51). -/
def execClaimReference (p : Port) (q : LinkSeq) (payload : List Byte) (s : State) : Result :=
  takeRequest p q 0x20 0 payload (inSession p (claimReferenceWith p)) s

/-- RELEASE_REFERENCE (R52). -/
def execReleaseReference (p : Port) (q : LinkSeq) (payload : List Byte) (s : State) : Result :=
  takeRequest p q 0x21 0 payload (inSession p (releaseReferenceWith p)) s

/-- SELECT_REFERENCE (R53). -/
def execSelectReference (p : Port) (q : LinkSeq) (payload : List Byte) (s : State) : Result :=
  takeRequest p q 0x22 1 payload (inSession p (selectReferenceWith p payload)) s

/-- REFERENCE_READ (R59). -/
def execReferenceRead (p : Port) (q : LinkSeq) (payload : List Byte) (s : State) : Result :=
  takeRequest p q 0x23 0 payload (inSession p fun x => (x, .reading .reference)) s

/-- The tick at which the Settle Remaining of the reference would reach 0 has come (R57). -/
def referenceSettleDue (s : State) : Bool :=
  match s.reference.state with
  | .settling _ _ due => due
  | .steady _ _ => false

/-- The end of a settle toward a reference: the State, channel 11, and the broadcast (R57). -/
def settleEnded (t : Ref) (s : State) : State :=
  let s1 := setRefState (.steady t false) s
  let s2 := match t with
    | .internal => setChannel 11 .free s1
    | .external => s1
  broadcast (.referenceChanged t) s2

/-- REFERENCE_SETTLE_END (R57): the last fall of the Settle Remaining, to 0, with what it brings (log 6, 12). -/
def execReferenceSettleEnd (s : State) : Result :=
  match s.reference.state with
  | .settling t _ true => .next (arbitrate (settleEnded t s))
  | .settling _ _ false | .steady _ _ => .next s

end Sys2Proof.Machine
end

