-- ==== Sys2Proof/Machine/Delivery.lean ====
section
/-! DEFINITION. Delivery of hand-overs: classification by a monitor, the latest value, records to recipients (07 R128 to
R131, R140; 08 R151 to R153), and the freeing of monitors (01 R14; 08 R146, R155). -/

namespace Sys2Proof.Machine

/-! ### Monitors -/

/-- The value on the 12-bit scale (R151). -/
def scaled (res : Resolution) (value : Nat) : Nat := value * 2 ^ (12 - res.bits)

/-- The zone of a scaled value (R151). -/
def zoneOf (m : Monitor) (v : Nat) : Zone :=
  if v < m.lowLimit then .below else if m.highLimit < v then .above else .inside

/-- The Run Count after a value in a zone that is not the Zone (R152). -/
def runAfter (m : Monitor) (z : Zone) : Nat := if m.candidate = some z then m.runCount + 1 else 1

/-- The record after a value in a zone (R152). -/
def classified (m : Monitor) (z : Zone) : Monitor :=
  if z = m.zone then { m with candidate := none, runCount := 0 }
  else if runAfter m z = m.filterCount then { m with zone := z, candidate := none, runCount := 0 }
  else { m with candidate := some z, runCount := runAfter m z }

/-- The value confirms a crossing that is reported: not the silent departure from UNKNOWN for INSIDE (R153). -/
def reportsCrossing (m : Monitor) (z : Zone) : Bool :=
  decide (z ≠ m.zone ∧ runAfter m z = m.filterCount ∧ ¬(m.zone = .unknown ∧ z = .inside))

/-- The monitor record that a completed conversion is classified by, where it names one in use (R129, R154). -/
def namedMonitor (s : State) (c : InFlight) : Option (MonitorId × Monitor) :=
  match c.monitor with
  | none => none
  | some m => (look s.monitors m).map fun r => (m, r)

/-- The MONITOR_CROSS flag of the conversion's records (R153). -/
def crosses (s : State) (c : InFlight) : Bool :=
  match namedMonitor s c with
  | none => false
  | some (_, r) => reportsCrossing r (zoneOf r (scaled c.resolution c.value))

/-- The monitor stage: classification, and MONITOR_CROSS to the owner at a reported crossing (R129, R153). -/
def monitorStage (c : InFlight) (s : State) : State :=
  match namedMonitor s c with
  | none => s
  | some (m, r) =>
    let v := scaled c.resolution c.value
    let z := zoneOf r v
    offerEvents (if reportsCrossing r z then [(.monitorCross m r.slot z v, r.owner)] else [])
      (setMonitor m (some (classified r z)) s)

/-- Frees a monitor: the record loses every field, and a conversion in flight that names it loses its Monitor field
(R14, R145). -/
def freeMonitor (m : MonitorId) (s : State) : State :=
  { s with
    monitors := put s.monitors m none
    inFlight := s.inFlight.map fun c => if c.monitor = some m then { c with monitor := none } else c }

/-- Frees the monitor of a slot that leaves the hub, and offers MONITOR_DETACHED to its owner (R155). -/
def detachLeaving (s : State) (id : SlotId) : State :=
  match monitorOf s id with
  | none => s
  | some m =>
    match look s.monitors m with
    | none => s
    | some r => offerEvents [(.monitorDetached m id, r.owner)] (freeMonitor m s)

/-! ### Completed conversions -/

/-- The latest-value entry that a completed conversion leaves (R140). -/
def latestEntry (c : InFlight) : LatestValue :=
  { value := c.value, resolution := c.resolution, reference := c.reference, frame := c.frame, source := c.source,
    session := c.session }

/-- The latest-value stage: the entry is replaced unless the channel is FREE or REFERENCE (R39, R129, R140). -/
def latestStage (c : InFlight) (s : State) : State :=
  match look s.channels c.channel with
  | .free => s
  | .reference => s
  | .digital _ _ | .settling _ _ _ | .analog _ _ =>
    setLatest c.channel (some (latestEntry c)) s

/-- The record of a completed conversion (R128). -/
def completedRecord (c : InFlight) (cross : Bool) : ResultRecord :=
  { sequence := 0, source := c.source, channel := c.channel, resolution := c.resolution, reference := c.reference,
    averaging := c.averaging, flags := { ResultFlags.none with late := c.lateness.isSome, monitorCross := cross },
    value := some c.value, frame := some c.frame, startPhase := some c.startPhase, lateness := c.lateness }

/-- The offer stage: one record to each recipient not skipped, in list order (R130). -/
def offerStage (c : InFlight) (cross : Bool) (s : State) : State :=
  offerResults ((c.recipients.filter fun r => !r.skipped).map fun r => (completedRecord c cross, r.session)) s

/-- The delivery of a completed conversion (R129). -/
def deliver (c : InFlight) (s : State) : State :=
  offerStage c (crosses s c) (latestStage c (monitorStage c s))

/-! ### Misses -/

/-- The records of a MISSED hand-over, one for each recipient (R108, R131). -/
def missedOffers (s : State) (frame : Half) (sl : Slot) : List (ResultRecord × Port) :=
  (slotRecipients s sl).map fun p =>
    ({ sequence := 0, source := .slot sl.id, channel := sl.channel, resolution := sl.resolution,
       reference := s.reference.state.named, averaging := .one, flags := .missedOnly, value := none,
       frame := some frame, startPhase := some sl.phase, lateness := none }, p)

end Sys2Proof.Machine
end

