-- ==== Sys2Proof/Machine/Results.lean ====
section
/-! DEFINITION. The result unit: FETCH_RESULTS and PEEK_LATEST, and the end of a conversion (chapters 07 and 01). -/

namespace Sys2Proof.Machine

/-- FETCH_RESULTS (07 R139). -/
def fetchResultsWith (p : Port) (payload : List Byte) (s : State) : Decision :=
  match payload with
  | [b] =>
    match within 1 4 b.toNat with
    | none => refuse .badArgument s
    | some n =>
      let qu := look s.results p
      let gone := qu.records.take n
      (setResults p { qu with records := qu.records.drop n, overflow := 0 } s,
        .built .ok ([byte gone.length, byte (qu.records.length - gone.length)] ++ half qu.overflow
          ++ gone.flatMap resultBytes))
  | _ => refuse .badLength s

/-- PEEK_LATEST (07 R142): the entry as it stands at the taking (07 R129). -/
def peekLatestWith (payload : List Byte) (s : State) : Decision :=
  match payload with
  | [c] =>
    match channelArg c with
    | none => refuse .badArgument s
    | some ch => (s, .built .ok (latestPayload s ch))
  | _ => refuse .badLength s

/-- FETCH_RESULTS (07 R139). -/
def execFetchResults (p : Port) (q : LinkSeq) (payload : List Byte) (s : State) : Result :=
  takeRequest p q 0x48 1 payload (inSession p (fetchResultsWith p payload)) s

/-- PEEK_LATEST (07 R142). -/
def execPeekLatest (p : Port) (q : LinkSeq) (payload : List Byte) (s : State) : Result :=
  takeRequest p q 0x49 1 payload (inSession p (peekLatestWith payload)) s

/-! ### The end of a conversion -/

/-- The conversion in flight has reached its planned end (01 R10). -/
def conversionDue (s : State) : Bool :=
  match s.inFlight with
  | some c => decide (c.plannedEnd ≤ s.clock)
  | none => false

/-- The slot of a conversion that ends is DONE, where its record still stands IN_FLIGHT (05 R107). -/
def doneSlot (c : InFlight) (plan : List ActiveSlot) : List ActiveSlot :=
  match c.source with
  | .slot id =>
    if c.slotStands then
      updateSlot id (fun a => if a.progress = .inFlight then { a with progress := .done } else a) plan
    else plan
  | .request _ => plan

/-- The end of a conversion: the converter IDLE, the slot DONE, the value handed over unless Discard is set, and the settle
of a waiting switch begun (01 R10; 05 R107; 03 R54). -/
def endConversion (c : InFlight) (s : State) : State :=
  let s1 := { s with inFlight := none, activePlan := doneSlot c s.activePlan }
  beginSettle (if c.discard then s1 else deliver c s1)

/-- CONVERSION_END (01 R10), when the conversion in flight has reached its planned end (log 6). -/
def execConversionEnd (s : State) : Result :=
  match s.inFlight with
  | some c => if c.plannedEnd ≤ s.clock then .next (arbitrate (endConversion c s)) else .next s
  | none => .next s

end Sys2Proof.Machine
end

