-- ==== Sys2Proof/Machine/Boundary.lean ====
section
/-! DEFINITION. Phase arrivals, the start of a frame, the frame boundary with its stages, the immediate apply, and the
re-check of queued requests (04 R65 to R77; 05 R99, R102 to R110; 06 R121). -/

namespace Sys2Proof.Machine

/-! ### Phase arrivals -/

/-- The slot of the active plan whose phase Elapsed stands at and whose arrival has not been taken (R65, R105). -/
def arrivingSlot (s : State) : Option ActiveSlot :=
  s.activePlan.find? fun a => a.slot.phase == s.timebase.elapsed && !a.arrived

/-- The record of a slot after its phase arrival (R105). -/
def arrivedRecord (due steady : Bool) (a : ActiveSlot) : ActiveSlot :=
  if a.void || !due then { a with arrived := true }
  else if steady then { a with arrived := true, progress := .pending }
  else { a with arrived := true, progress := .done, missed := true }

/-- The phase arrival of the present Elapsed (R105): PENDING, MISSED with its hand-over, or IDLE. -/
def phaseArrival (s : State) : State :=
  match arrivingSlot s with
  | none => s
  | some a =>
    let due := a.slot.due s.timebase.frameNumber
    let steady := s.reference.state.isSteady
    let s1 := { s with activePlan := updateSlot a.slot.id (arrivedRecord due steady) s.activePlan }
    if !a.void && due && !steady then offerResults (missedOffers s s.timebase.frameNumber a.slot) s1 else s1

/-! ### Starts and stops -/

/-- Every slot at the start of a frame: IDLE, not late, not missed, its arrival not taken (R105). -/
def ActiveSlot.atFrameStart (a : ActiveSlot) : ActiveSlot :=
  { a with progress := .idle, lateness := none, missed := false, arrived := false }

/-- Frame 0 starts in a state, with TIMEBASE_STARTED and then the broadcasts `also` gives; then its phase-0 arrival (R77).
The arbiter's decision is taken by the command (log 10). -/
def startFrame0 (st : TimebaseState) (also : List EventKind) (s : State) : State :=
  let s1 := { s with
    timebase := { s.timebase with
      state := st, frameNumber := 0, elapsed := 0, boundaryDue := false, missCount := 0, spuriousCount := 0 }
    activePlan := s.activePlan.map ActiveSlot.atFrameStart }
  phaseArrival (also.foldl (fun x k => broadcast k x) (broadcast .timebaseStarted s1))

/-- The hunting limit: frame 0 starts in FLYWHEEL, with SYNC_LOST of miss count 0 (R75). -/
def huntingLimit (s : State) : State := startFrame0 .flywheel [.syncLost 0] s

/-- The timebase enters STOPPED; the counts keep their values (R72, R76). -/
def enterStopped (s : State) : State :=
  { s with timebase := { s.timebase with state := .stopped, frameNumber := 0, elapsed := 0, boundaryDue := false } }

/-! ### Replacing the active plan -/

/-- The slots that leave the active plan when the next plan replaces it: void, or absent from the next plan (R102). -/
def leavingSlots (s : State) : List ActiveSlot := s.activePlan.filter fun a => a.void || !inNext s a.slot.id

/-- The active plan becomes a copy of the next plan; monitors of leaving slots that are not void are freed with
MONITOR_DETACHED (R99, R102). -/
def replacePlan (s : State) : State :=
  let s1 := ((leavingSlots s).filter fun a => !a.void).foldl (fun x a => detachLeaving x a.slot.id) s
  { s1 with
    activePlan := s.nextPlan.map ActiveSlot.fresh
    activeTiming := s.nextTiming
    inFlight := s1.inFlight.map fun c =>
      match c.source with
      | .slot id => { c with slotStands := c.slotStands && inNext s id && !(leavingSlots s).any fun a => a.slot.id == id }
      | .request _ => c }

/-- The next plan, made active, changes the active plan (R104; log 27). -/
def changesPlan (s : State) : Bool :=
  decide (s.nextPlan ≠ s.activePlan.map (·.slot) ∨ s.nextTiming ≠ s.activeTiming)

/-- The re-check: entries longer than the largest gap of the active plan are removed with UNSCHEDULABLE records (R121). -/
def recheck (s : State) : State :=
  removeEntries .unschedulableOnly (fun e => !withinGap e.occupancy (activeGap s)) allPorts s

/-- A change of the active plan: the activation count rises and the re-check is made (R104). -/
def planChanged (changed : Bool) (s : State) : State :=
  if changed then recheck { s with activationCount := s.activationCount + 1 } else s

/-! ### The boundary -/

/-- The sync outcome of an ending frame (R67). -/
inductive SyncOutcome where
  | accepted | miss | plain
deriving DecidableEq, Repr

/-- The Miss Count that an outcome leaves (R69, R70; log 13). -/
def missAfter (o : SyncOutcome) (n : Nat) : Nat :=
  match o with
  | .accepted => 0
  | .miss => n + 1
  | .plain => n

/-- Stage 1: the frame number advances and Elapsed is 0 (R67). -/
def boundaryStage1 (o : SyncOutcome) (s : State) : State :=
  { s with timebase := { s.timebase with
      frameNumber := s.timebase.frameNumber + 1, elapsed := 0, boundaryDue := false,
      missCount := missAfter o s.timebase.missCount } }

/-- Step 1 of stage 2: slots still PENDING are MISSED, their records carrying the number of the ending frame (R102). -/
def missPending (ending : Half) (s : State) : State :=
  offerResults ((s.activePlan.filter fun a => a.progress == .pending).flatMap fun a => missedOffers s ending a.slot)
    { s with activePlan := s.activePlan.map fun a =>
        if a.progress = .pending then { a with progress := .done, missed := true } else a }

/-- Step 4 of stage 2: COMMIT_APPLIED to each noted session, and every note cleared (R102, R103). -/
def answerNotes (s : State) : State :=
  { offerEvents ((allPorts.filter fun p => look s.noted p).map fun p => (.commitApplied s.timebase.frameNumber, p)) s with
    noted := Vector.replicate 4 false }

/-- Stage 2: the plan unit's part of the boundary (R102). -/
def boundaryStage2 (ending : Half) (s : State) : State :=
  planChanged (changesPlan s) (answerNotes (replacePlan (missPending ending s)))

/-- The state, Miss Count and broadcasts of the new frame (R70, R71). -/
def newFrameState (ended : TimebaseState) (mode : TimingMode) (o : SyncOutcome) (misses : Nat) :
    TimebaseState × Nat × List EventKind :=
  match mode with
  | .free => (.freeRun, 0, [])
  | .external =>
    match ended, o with
    | .locked, .accepted => (.locked, 0, [])
    | .locked, _ => if 3 ≤ misses then (.flywheel, misses, [.syncLost misses]) else (.locked, misses, [])
    | .flywheel, .accepted => (.locked, 0, [.syncLocked])
    | .flywheel, _ => (.flywheel, misses, [])
    | _, _ => (.flywheel, 0, [])

/-- Stages 4 and 5: the state of the new frame, its broadcasts, and its phase-0 arrival (R67, R71). -/
def boundaryStages45 (ended : TimebaseState) (o : SyncOutcome) (s : State) : State :=
  let n := newFrameState ended s.activeTiming.mode o s.timebase.missCount
  phaseArrival (n.2.2.foldl (fun x k => broadcast k x)
    { s with timebase := { s.timebase with state := n.1, missCount := n.2.1 } })

/-- A frame boundary (R67): it stops the timebase where the new active plan holds no slot (R72), else the new frame starts
and the arbiter decides. -/
def takeBoundary (o : SyncOutcome) (s : State) : State :=
  let s2 := boundaryStage2 s.timebase.frameNumber (boundaryStage1 o s)
  if s2.activePlan.isEmpty then broadcast .timebaseStopped (enterStopped s2)
  else arbitrate (boundaryStages45 s.timebase.state o s2)

/-! ### The immediate apply -/

/-- What the timebase does after an immediate apply (R73, R76). HUNTING keeps the Miss Count of the stop, as the prose of R64
says; its table gives 0 there, and the model follows the prose (log 13). -/
def timebaseAfterApply (s : State) : State :=
  if s.activePlan.isEmpty then enterStopped s
  else
    match s.activeTiming.mode with
    | .free => startFrame0 .freeRun [] s
    | .external =>
      match s.timebase.state with
      | .hunting n => if 4 * s.activeTiming.frameLength ≤ n then huntingLimit s else s
      | _ => { s with timebase := { s.timebase with state := .hunting 0 } }

/-- An immediate apply of the next plan (R99): the re-check, as at a boundary, stands before the timebase acts (R121 fixes no
order against the records of frame 0; log 28), and the arbiter decides last (log 10). It decides also where the apply leaves the
active plan unchanged: R99 calls every immediate apply a decision event, R15's table lists only one that changes the active plan,
and that the model follows R99 is its choice (log 29). -/
def immediateApply (s : State) : State :=
  arbitrate (timebaseAfterApply (planChanged (changesPlan s) (replacePlan s)))

end Sys2Proof.Machine
end

