-- ==== Sys2Proof/Machine/Teardown.lean ====
section
/-! DEFINITION. Session end: the State leaves OPEN, then each block's part of the teardown, in the order of the table of
10 R177 (log 11), then the arbiter's decision (log 10). -/

namespace Sys2Proof.Machine

/-- The claim table frees one channel that the session owns (02 R47, steps 1 to 3). -/
def freeOwned (p : Port) (s : State) (ch : Channel) : State :=
  match look s.channels ch with
  | .analog o subs =>
    if o = p then setLatest ch none (setChannel ch .free (withdrawUsers ch .ownerEnded o subs s)) else s
  | .settling o _ _ => if o = p then setLatest ch none (setChannel ch .free s) else s
  | .digital o _ => if o = p then setLatest ch none (setChannel ch .free s) else s
  | .free => s
  | .reference => s

/-- A channel record with a session removed from its subscriber list (02 R41, R47). -/
def ChannelRec.unsubscribed (p : Port) : ChannelRec → ChannelRec
  | .analog o subs => .analog o (subs.filter fun x => x != p)
  | .free => .free
  | .digital o d => .digital o d
  | .settling o n due => .settling o n due
  | .reference => .reference

/-- The session leaves the subscriber list of a channel (02 R47, step 4). -/
def leaveList (p : Port) (s : State) (ch : Channel) : State :=
  setChannel ch ((look s.channels ch).unsubscribed p) s

/-- The claim table's part (02 R47). -/
def teardownClaims (p : Port) (s : State) : State :=
  allChannels.foldl (leaveList p) (allChannels.foldl (freeOwned p) s)

/-- The reference unit's part (03 R61). -/
def teardownReference (p : Port) (s : State) : State := if s.reference.holder = some p then loseHolder s else s

/-- The timebase's part (04 R81). -/
def teardownTimebase (p : Port) (s : State) : State :=
  if s.timebase.holder = some p then { s with timebase := { s.timebase with holder := none } } else s

/-- A slot of the active plan marked void; a PENDING one becomes DONE with Missed clear (05 R106, R109). -/
def ActiveSlot.voided (a : ActiveSlot) : ActiveSlot :=
  { a with void := true, progress := if a.progress = .pending then .done else a.progress }

/-- The session owns a slot of the active plan with the conversion's id, and that slot is the one converted (01 R11). -/
def voidsInFlight (p : Port) (s : State) (c : InFlight) : Bool :=
  match c.source with
  | .slot id => c.slotStands && s.activePlan.any fun a => a.slot.id == id && a.slot.owner == p
  | .request _ => false

/-- The plan unit's part, with the Discard field it sets in the converter (05 R109, 01 R11). -/
def teardownPlan (p : Port) (s : State) : State :=
  { s with
    staging := put s.staging p []
    nextPlan := s.nextPlan.filter fun sl => sl.owner != p
    activePlan := s.activePlan.map fun a => if a.slot.owner = p then a.voided else a
    noted := put s.noted p false
    inFlight := s.inFlight.map fun c => if voidsInFlight p s c then { c with discard := true } else c }

/-- The request queues' part: the queue is emptied without records (06 R125). -/
def teardownRequests (p : Port) (s : State) : State := setRequests p [] s

/-- The marks a session end places on the conversion in flight: Discard on the session's own request, a skip mark on the
session among the recipients of a slot conversion (01 R12, R13; log 16). -/
def InFlight.sessionEnded (p : Port) (c : InFlight) : InFlight :=
  match c.source with
  | .request _ => if c.session = p then { c with discard := true } else c
  | .slot _ =>
    { c with recipients := c.recipients.map fun r => if r.session = p then { r with skipped := true } else r }

/-- The converter's part (01 R12, R13, R22). -/
def teardownConverter (p : Port) (s : State) : State := { s with inFlight := s.inFlight.map (InFlight.sessionEnded p) }

/-- The result unit's part: the queue emptied, the overflow count cleared (07 R143). -/
def teardownResults (p : Port) (s : State) : State :=
  setResults p { look s.results p with records := [], overflow := 0 } s

/-- Frees a monitor that the session owns (08 R156). -/
def freeIfOwned (p : Port) (s : State) (m : MonitorId) : State :=
  match look s.monitors m with
  | some r => if r.owner = p then freeMonitor m s else s
  | none => s

/-- The monitor unit's part (08 R156). -/
def teardownMonitors (p : Port) (s : State) : State := allMonitors.foldl (freeIfOwned p) s

/-- The event unit's part: the queue emptied, the lost count cleared (09 R165). -/
def teardownEvents (p : Port) (s : State) : State := setEvents p { records := [], lost := 0 } s

/-- The parts of the teardown in the order of R177. -/
def teardown (p : Port) (s : State) : State :=
  teardownEvents p (teardownMonitors p (teardownResults p (teardownConverter p (teardownRequests p
    (teardownPlan p (teardownTimebase p (teardownReference p (teardownClaims p s))))))))

/-- A session end raises a decision event: a head has left a queue, a slot has been voided, or the next plan has changed
while a frame is running (01 R15, R22). -/
def endRaisesDecision (p : Port) (before after : State) : Bool :=
  headLeft before.requests after.requests
    || before.activePlan.any (fun a => a.slot.owner == p && !a.void)
    || (running before && before.nextPlan.any fun sl => sl.owner == p)

/-- The end of a session, by CLOSE or by expiry (10 R177). -/
def endSession (p : Port) (left : SessionState) (s : State) : State :=
  let s1 := teardown p (setSession p { look s.sessions p with state := left } s)
  arbitrateIf (endRaisesDecision p s s1) s1

end Sys2Proof.Machine
end

