-- ==== Sys2Proof/Machine/Sessions.lean ====
section
/-! DEFINITION. The session unit: IDENTIFY, OPEN, CLOSE, RENEW, STATUS, and the fall and expiry of a lease (chapter 10). -/

namespace Sys2Proof.Machine

/-- The lease of a session just opened (R171). -/
def OpenArgs.lease (a : OpenArgs) : Lease :=
  { leaseLength := a.leaseLength, leaseRemaining := a.leaseLength, leaseTick := 0, fallDue := false,
    warningSent := false, expectedRenewal := 1, policy := a.policy, watermark := a.watermark }

/-- The state before was REVOKED (R171). -/
def SessionState.isRevoked : SessionState → Bool
  | .revoked => true
  | .closed => false
  | .opened _ => false

/-- The state after an OPEN: the record filled, the session's queues, counts and staging area empty, RESET_SEEN cleared
(R171; 06 R124, 07 R143, 09 R166). -/
def opened (p : Port) (a : OpenArgs) (s : State) : State :=
  setPort p { look s.ports p with resetSeen := false }
    (setSession p { state := .opened a.lease, previousRevoked := (look s.sessions p).state.isRevoked }
      (setResults p { records := [], nextSequence := 0, overflow := 0 }
        (setEvents p { records := [], lost := 0 } (setRequests p [] (setStaging p [] s)))))

/-- OPEN (R170, R171). -/
def openWith (p : Port) (payload : List Byte) (s : State) : Decision :=
  match (look s.sessions p).state with
  | .opened _ => refuse .inUse s
  | .closed | .revoked =>
    match payload with
    | [hi, lo, pol, wm] =>
      match openArgs hi lo pol wm with
      | none => refuse .badArgument s
      | some a =>
        (opened p a s, .built .ok (half 1 ++ [resetCauseByte s.resetCause, flag (look s.sessions p).state.isRevoked]
          ++ half a.leaseLength ++ [byte p.val]))
    | _ => refuse .badLength s

/-- CLOSE from an OPEN session (R176): the reply counts the records that the teardown discards. -/
def closeWith (p : Port) (s : State) : Decision :=
  (endSession p .closed s,
    .built .ok [byte (look s.results p).records.length, byte (look s.events p).records.length])

/-- A lease refilled by an accepted RENEW (R174). -/
def Lease.renewed (l : Lease) : Lease :=
  { l with
    leaseRemaining := l.leaseLength, leaseTick := 0, fallDue := false, warningSent := false,
    expectedRenewal := l.expectedRenewal + 1 }

/-- RENEW from an OPEN session (R174). -/
def renewWith (p : Port) (payload : List Byte) (s : State) : Decision :=
  match (look s.sessions p).state, payload with
  | .opened l, [hi, lo] =>
    if be16 hi lo = l.expectedRenewal.toNat then
      (setSession p { look s.sessions p with state := .opened l.renewed } s,
        .built .ok (half l.renewed.expectedRenewal.toNat ++ half l.leaseLength))
    else (s, .built .badRenewal (half l.expectedRenewal.toNat))
  | _, _ => refuse .badLength s

/-- IDENTIFY (R179): vendor, part, revision, port, reset cause and the capacities. -/
def identifyPayload (p : Port) (s : State) : List Byte :=
  [0x53, 0xA1, 0x01, byte p.val, resetCauseByte s.resetCause, byte 4, byte 14, byte 24, byte 8, byte 8, byte 32, byte 16,
    byte 8]

/-! ### Meanings -/

/-- IDENTIFY (R179), carried out in every State (R169). -/
def execIdentify (p : Port) (q : LinkSeq) (payload : List Byte) (s : State) : Result :=
  takeRequest p q 0x01 0 payload (fun x => (x, .built .ok (identifyPayload p x))) s

/-- OPEN (R170, R171). -/
def execOpenSession (p : Port) (q : LinkSeq) (payload : List Byte) (s : State) : Result :=
  takeRequest p q 0x02 4 payload (openWith p payload) s

/-- CLOSE (R176). -/
def execCloseSession (p : Port) (q : LinkSeq) (payload : List Byte) (s : State) : Result :=
  takeRequest p q 0x03 0 payload (inSession p (closeWith p)) s

/-- RENEW (R174). -/
def execRenew (p : Port) (q : LinkSeq) (payload : List Byte) (s : State) : Result :=
  takeRequest p q 0x04 2 payload (inSession p (renewWith p payload)) s

/-- STATUS (R178), carried out in every State (R169). -/
def execStatus (p : Port) (q : LinkSeq) (payload : List Byte) (s : State) : Result :=
  takeRequest p q 0x05 0 payload (fun x => (x, .reading .status)) s

/-- The fall that brings the warning: Warning Sent clear and four times the new Lease Remaining at or below the Lease Length
(R173). -/
def Lease.warns (l : Lease) : Bool := !l.warningSent && decide (4 * (l.leaseRemaining - 1) ≤ l.leaseLength)

/-- A lease after a fall (R172, R173). -/
def Lease.fallen (l : Lease) : Lease :=
  { l with
    leaseRemaining := l.leaseRemaining - 1, leaseTick := 0, fallDue := false,
    warningSent := l.warningSent || l.warns }

/-- The tick at which the Lease Tick of the session would reach 2,000 has come (R172). -/
def leaseFallDue (s : State) (p : Port) : Bool :=
  match (look s.sessions p).lease with
  | some l => l.fallDue
  | none => false

/-- LEASE_FALL (R172, R173), at the tick at which the Lease Tick would reach 2,000 (log 6, 12). -/
def execLeaseFall (p : Port) (s : State) : Result :=
  match (look s.sessions p).state with
  | .opened l =>
    if l.fallDue then
      .next (offerEvents (if l.warns then [(.leaseWarning (l.leaseRemaining - 1), p)] else [])
        (setSession p { look s.sessions p with state := .opened l.fallen } s))
    else .next s
  | .closed | .revoked => .next s

/-- The Lease Remaining of an OPEN session stands at 0 (R175). -/
def leaseExpiryDue (s : State) (p : Port) : Bool :=
  match (look s.sessions p).lease with
  | some l => l.leaseRemaining == 0
  | none => false

/-- LEASE_EXPIRY (R175), when the Lease Remaining stands at 0 (log 6, 24). -/
def execLeaseExpiry (p : Port) (s : State) : Result :=
  if leaseExpiryDue s p then .next (endSession p .revoked s) else .next s

end Sys2Proof.Machine
end

