-- ==== Sys2Proof/Machine/Timebases.lean ====
section
/-! DEFINITION. The timebase: CLAIM_TIMEBASE, RELEASE_TIMEBASE, TIMEBASE_READ, SYNC edges, the frame boundary, the hunting
limit and phase arrivals (chapter 04). -/

namespace Sys2Proof.Machine

/-- The Holder with a flag showing whether the role is held (R78). -/
def holderPair (h : Option Port) : List Byte := [flag h.isSome, portByte h]

/-- CLAIM_TIMEBASE (R78). -/
def claimTimebaseWith (p : Port) (s : State) : Decision :=
  match s.timebase.holder with
  | none => ({ s with timebase := { s.timebase with holder := some p } }, .built .ok (holderPair (some p)))
  | some h => if h = p then (s, .built .ok (holderPair (some h))) else (s, .built .inUse (holderPair (some h)))

/-- RELEASE_TIMEBASE (R79). -/
def releaseTimebaseWith (p : Port) (s : State) : Decision :=
  if s.timebase.holder = some p then
    ({ s with timebase := { s.timebase with holder := none } }, .built .ok [])
  else refuse .notOwner s

/-! ### Meanings -/

/-- CLAIM_TIMEBASE (R78). -/
def execClaimTimebase (p : Port) (q : LinkSeq) (payload : List Byte) (s : State) : Result :=
  takeRequest p q 0x28 0 payload (inSession p (claimTimebaseWith p)) s

/-- RELEASE_TIMEBASE (R79). -/
def execReleaseTimebase (p : Port) (q : LinkSeq) (payload : List Byte) (s : State) : Result :=
  takeRequest p q 0x29 0 payload (inSession p (releaseTimebaseWith p)) s

/-- TIMEBASE_READ (R80). -/
def execTimebaseRead (p : Port) (q : LinkSeq) (payload : List Byte) (s : State) : Result :=
  takeRequest p q 0x2A 0 payload (inSession p fun x => (x, .reading .timebase)) s

/-- An edge in a frame that takes edges: accepted from F − W on, up to the tick of the boundary itself where the edge is taken
first, else counted spurious (R69, R71). -/
def edgeInFrame (s : State) : State :=
  if s.activeTiming.frameLength - s.activeTiming.window ≤ s.timebase.ticksPassed then takeBoundary .accepted s
  else { s with timebase := { s.timebase with spuriousCount := saturate 65535 (s.timebase.spuriousCount + 1) } }

/-- SYNC_EDGE (R66, R69, R71, R74): ignored during a device reset. -/
def execSyncEdge (s : State) : Result :=
  if s.inReset then .next s
  else
    let s1 := { s with syncEdgeSampled := false }
    match s.timebase.state with
    | .stopped => .next s1
    | .freeRun => .next s1
    | .hunting _ => .next (arbitrate (startFrame0 .locked [] s1))
    | .locked => .next (edgeInFrame s1)
    | .flywheel => .next (edgeInFrame s1)

/-- The boundary that the frame's own count takes now, if it does: at the tick at which Elapsed would reach F in FREE_RUN and
FLYWHEEL, F + W in LOCKED (R68, R69, R71; log 12). -/
def countedBoundary (s : State) : Option SyncOutcome :=
  match s.timebase.state with
  | .stopped => none
  | .hunting _ => none
  | .freeRun => if s.timebase.boundaryDue then some .plain else none
  | .flywheel => if s.timebase.boundaryDue then some .plain else none
  | .locked => if s.timebase.boundaryDue then some .miss else none

/-- FRAME_BOUNDARY (R67 to R72), at the tick at which the frame's count would reach its end (log 6, 12). -/
def execFrameBoundary (s : State) : Result :=
  match countedBoundary s with
  | some o => .next (takeBoundary o s)
  | none => .next s

/-- Hunt Elapsed has reached four times F (R75). -/
def huntingLimitDue (s : State) : Bool :=
  match s.timebase.state with
  | .hunting n => 4 * s.activeTiming.frameLength ≤ n
  | .stopped | .freeRun | .locked | .flywheel => false

/-- HUNTING_LIMIT (R75), when Hunt Elapsed has reached the limit (log 6). -/
def execHuntingLimit (s : State) : Result :=
  if huntingLimitDue s then .next (arbitrate (huntingLimit s)) else .next s

/-- A frame is running and a phase arrival of the present Elapsed has not been taken (R65). -/
def phaseArrivalDue (s : State) : Bool := running s && (arrivingSlot s).isSome

/-- The slot arriving is not void, so that its arrival is a decision event (R15, R105). -/
def arrivalRaisesDecision (s : State) : Bool :=
  match arrivingSlot s with
  | some a => !a.void
  | none => false

/-- PHASE_ARRIVAL (R105), when Elapsed stands at the phase of a slot whose arrival has not been taken (log 6). -/
def execPhaseArrival (s : State) : Result :=
  if phaseArrivalDue s then .next (arbitrateIf (arrivalRaisesDecision s) (phaseArrival s)) else .next s

end Sys2Proof.Machine
end

