-- ==== Sys2Proof/Machine/Clock.lean ====
section
/-! DEFINITION. Time: one device tick, the events of the hub that are due, and which of them an idle step takes (log 1 to 3,
12, 19, 20). -/

namespace Sys2Proof.Machine

/-! ### One device tick -/

/-- A settle count after a tick: it falls by one; at the tick that would bring it to 0 it keeps its last value, and the end of
the settle is due (02 R28, 03 R57; log 12). -/
def settleTick (n : Nat) (due : Bool) : Nat × Bool := if n ≤ 1 then (n, true) else (n - 1, due)

/-- A channel's settle count after a tick (02 R28). -/
def ChannelRec.ticked : ChannelRec → ChannelRec
  | .settling o n due => .settling o (settleTick n due).1 (settleTick n due).2
  | .free => .free
  | .digital o d => .digital o d
  | .analog o subs => .analog o subs
  | .reference => .reference

/-- The settle count of the reference after a tick (03 R57). -/
def RefState.ticked : RefState → RefState
  | .settling t n due => .settling t (settleTick n due).1 (settleTick n due).2
  | .steady r taken => .steady r taken

/-- Elapsed rises by one; at the tick at which it would reach the end of the frame it keeps its last value, and the boundary
is due (04 R65, R68, R69, R71; log 12). -/
def Timebase.counted (frameEnd : Nat) (b : Timebase) : Timebase :=
  if b.elapsed + 1 < frameEnd then { b with elapsed := b.elapsed + 1 } else { b with boundaryDue := true }

/-- Elapsed, or Hunt Elapsed, after a tick under the active timing (04 R65, R74). -/
def Timebase.ticked (t : Timing) (b : Timebase) : Timebase :=
  match b.state with
  | .stopped => b
  | .hunting n => { b with state := .hunting (n + 1) }
  | .freeRun => b.counted (t.frameEnd .freeRun)
  | .locked => b.counted (t.frameEnd .locked)
  | .flywheel => b.counted (t.frameEnd .flywheel)

/-- The Lease Tick rises by one; at the tick at which it would reach 2,000 it keeps its last value, and the fall is due
(10 R172; log 12). -/
def Lease.ticked (l : Lease) : Lease :=
  if l.leaseTick + 1 < 2000 then { l with leaseTick := l.leaseTick + 1 } else { l with fallDue := true }

/-- The lease of an OPEN session after a tick (10 R172). -/
def Session.ticked (x : Session) : Session :=
  match x.state with
  | .opened l => { x with state := .opened l.ticked }
  | .closed => x
  | .revoked => x

/-- Every channel's settle counts independently (02 R28). -/
def tickChannels (v : Vector ChannelRec 14) : Vector ChannelRec 14 :=
  allChannels.foldl (fun w ch => put w ch (look w ch).ticked) v

/-- Every session's lease counts independently (10 R172). -/
def tickSessions (v : Vector Session 4) : Vector Session 4 :=
  allPorts.foldl (fun w p => put w p (look w p).ticked) v

/-- The tick at which the acquisition period of the next sample ends (01 R2). -/
def InFlight.nextSampleTick (c : InFlight) : Nat :=
  c.startTick + c.samples.length * (c.sampleTicks + c.resolution.ticks) + c.sampleTicks

/-- The converter takes a sample at the tick at which its acquisition period ends (01 R2, R8). -/
def sampleNow (s : State) : State :=
  { s with inFlight := s.inFlight.map fun c =>
      if c.samples.length < c.averaging.count ∧ c.nextSampleTick = s.clock then
        { c with samples := c.samples ++ [takeSample s c] }
      else c }

/-- SYNC is sampled: an edge is a high sample after a low one (04 R66; log 20). -/
def sampleSync (s : State) : State :=
  let level := s.syncInput.headD false
  { s with
    syncInput := s.syncInput.tail
    syncEdgeSampled := level && s.syncSampledLow
    syncSampledLow := !level }

/-- One device tick: every count moves, the converter samples, and SYNC and the selects are sampled (00 Time). The events due at
the tick follow in later steps, so a select that falls at the tick captures the status byte as it stands before them; no rule
orders a select fall and the events of its tick, and this order is the model's choice (11 R185; log 19). -/
def tick (s : State) : State :=
  sampleSelects (sampleSync (sampleNow { s with
    clock := s.clock + 1
    moment := s.moment + 1
    sessions := tickSessions s.sessions
    channels := tickChannels s.channels
    reference := { s.reference with state := s.reference.state.ticked }
    timebase := s.timebase.ticked s.activeTiming }))

/-! ### Events that are due -/

/-- An event listed while its condition holds. -/
def when (b : Bool) (c : Instr) : List Instr := if b then [c] else []

/-- The events of the hub that are due now and come before the next tick. -/
def dueEvents (s : State) : List Instr :=
  when (conversionDue s) .conversionEnd
    ++ allChannels.flatMap (fun ch => when (analogSettleDue s ch) (.analogSettleEnd ch))
    ++ when (referenceSettleDue s) .referenceSettleEnd
    ++ when (countedBoundary s).isSome .frameBoundary
    ++ when (huntingLimitDue s) .huntingLimit
    ++ when (phaseArrivalDue s) .phaseArrival
    ++ allPorts.flatMap (fun p => when (leaseFallDue s p) (.leaseFall p))
    ++ allPorts.flatMap (fun p => when (leaseExpiryDue s p) (.leaseExpiry p))
    ++ when s.syncEdgeSampled .syncEdge

/-- The ports whose request may end its processing now (11 R190; log 3). -/
def readyReplies (s : State) : List Instr :=
  allPorts.flatMap fun p => when (look s.ports p).busy (.replyStored p)

/-- What an idle step may do: take an event that is due or end a processing, or, when no event is due, let a tick pass
(none). -/
def idleChoices (s : State) : List (Option Instr) :=
  let ready := (readyReplies s).map some
  match dueEvents s with
  | [] => none :: ready
  | due => due.map some ++ ready

/-- The choice of an idle step: the only one, or the one a free value picks (log 2, 3). -/
def idleChoice (s : State) : Option Instr :=
  match idleChoices s with
  | [] => none
  | [c] => c
  | c :: rest => (c :: rest).getD (Config.choice s.moment % (rest.length + 1)) c

end Sys2Proof.Machine
end

