-- ==== Sys2Proof/Machine/Events.lean ====
section
/-! DEFINITION. The event unit: FETCH_EVENTS (chapter 09). -/

namespace Sys2Proof.Machine

/-- FETCH_EVENTS (R163). -/
def fetchEventsWith (p : Port) (payload : List Byte) (s : State) : Decision :=
  match payload with
  | [b] =>
    match within 1 4 b.toNat with
    | none => refuse .badArgument s
    | some n =>
      let qu := look s.events p
      let gone := qu.records.take n
      (setEvents p { records := qu.records.drop n, lost := 0 } s,
        .built .ok ([byte gone.length, byte (qu.records.length - gone.length), byte qu.lost] ++ gone.flatMap eventBytes))
  | _ => refuse .badLength s

/-- FETCH_EVENTS (R163). -/
def execFetchEvents (p : Port) (q : LinkSeq) (payload : List Byte) (s : State) : Result :=
  takeRequest p q 0x58 1 payload (inSession p (fetchEventsWith p payload)) s

end Sys2Proof.Machine
end

