-- ==== Sys2Proof/Machine/Monitors.lean ====
section
/-! DEFINITION. The monitor unit: ATTACH_MONITOR, DETACH_MONITOR and MONITOR_READ (chapter 08). -/

namespace Sys2Proof.Machine

/-- The lowest-numbered free monitor record (R145). -/
def lowestFreeMonitor (s : State) : Option MonitorId := allMonitors.find? fun m => (look s.monitors m).isNone

/-- The record of a monitor just attached (R147). -/
def MonitorArgs.attached (p : Port) (a : MonitorArgs) : Monitor :=
  { owner := p, slot := a.slot, lowLimit := a.lowLimit, highLimit := a.highLimit, filterCount := a.filterCount,
    zone := .unknown, candidate := none, runCount := 0 }

/-- ATTACH_MONITOR with its arguments in range (R147). -/
def attachTo (p : Port) (a : MonitorArgs) (s : State) : Decision :=
  match nextSlot s a.slot with
  | none => refuse .notFound s
  | some sl =>
    if sl.owner ≠ p then refuse .notOwner s
    else if (monitorOf s a.slot).isSome then refuse .inUse s
    else
      match lowestFreeMonitor s with
      | none => refuse .full s
      | some m => (setMonitor m (some (a.attached p)) s, .built .ok [byte m.val])

/-- ATTACH_MONITOR (R147). -/
def attachMonitorWith (p : Port) (payload : List Byte) (s : State) : Decision :=
  match payload with
  | [id, lHi, lLo, hHi, hLo, c] =>
    match monitorArgs id lHi lLo hHi hLo c with
    | none => refuse .badArgument s
    | some a => attachTo p a s
  | _ => refuse .badLength s

/-- DETACH_MONITOR (R149). -/
def detachMonitorWith (p : Port) (payload : List Byte) (s : State) : Decision :=
  match payload with
  | [b] =>
    match monitorIdArg b with
    | none => refuse .badArgument s
    | some m =>
      match look s.monitors m with
      | none => refuse .notFound s
      | some r =>
        if r.owner = p then
          (freeMonitor m s, .built .ok [byte r.slot.val, zoneByte r.zone, candidateByte r.candidate, byte r.runCount])
        else refuse .notOwner s
  | _ => refuse .badLength s

/-- MONITOR_READ (R150): the record as it stands at the taking. -/
def monitorReadWith (payload : List Byte) (s : State) : Decision :=
  match payload with
  | [b] =>
    match monitorIdArg b with
    | none => refuse .badArgument s
    | some m => (s, .built .ok (monitorPayload s m))
  | _ => refuse .badLength s

/-! ### Meanings -/

/-- ATTACH_MONITOR (R147). -/
def execAttachMonitor (p : Port) (q : LinkSeq) (payload : List Byte) (s : State) : Result :=
  takeRequest p q 0x50 6 payload (inSession p (attachMonitorWith p payload)) s

/-- DETACH_MONITOR (R149). -/
def execDetachMonitor (p : Port) (q : LinkSeq) (payload : List Byte) (s : State) : Result :=
  takeRequest p q 0x51 1 payload (inSession p (detachMonitorWith p payload)) s

/-- MONITOR_READ (R150). -/
def execMonitorRead (p : Port) (q : LinkSeq) (payload : List Byte) (s : State) : Result :=
  takeRequest p q 0x52 1 payload (inSession p (monitorReadWith payload)) s

end Sys2Proof.Machine
end

