-- ==== Sys2Proof/Machine/OnDemand.lean ====
section
/-! DEFINITION. The request queues: SUBMIT and CANCEL (chapter 06). -/

namespace Sys2Proof.Machine

/-- The Tag is held by an entry of the session's queue (R114). -/
def tagQueued (s : State) (p : Port) (tag : Byte) : Bool := (look s.requests p).any fun e => e.tag == tag

/-- The Tag is held by the conversion in flight with the session as Requester; a conversion discarded because its session
ended holds no Tag (R114). -/
def tagInFlight (s : State) (p : Port) (tag : Byte) : Bool :=
  match s.inFlight with
  | some c => c.source == .request tag && c.session == p && !c.discard
  | none => false

/-- The Tag is in use for the session (R114). -/
def tagInUse (s : State) (p : Port) (tag : Byte) : Bool := tagQueued s p tag || tagInFlight s p tag

/-- The session may submit on the channel: an owner while it is ANALOG, or a subscriber; else the refusal (R115). -/
def submitRight (p : Port) : ChannelRec → Option Status
  | .analog o subs => if o = p ∨ p ∈ subs then none else some .notOwner
  | .settling o _ _ => if o = p then some .wrongMode else some .notOwner
  | .digital o _ => if o = p then some .wrongMode else some .notOwner
  | .free => some .notOwner
  | .reference => some .notOwner

/-- A refusal of SUBMIT that carries the queue count (R115). -/
def refuseCounted (st : Status) (p : Port) (s : State) : Decision :=
  (s, .built st [byte (look s.requests p).length])

/-- The entry of an accepted SUBMIT (R116). -/
def SubmitArgs.entry (tag : Byte) (a : SubmitArgs) : RequestEntry :=
  { tag, channel := a.channel, resolution := a.resolution, sampleTicks := a.sampleTicks, averaging := a.averaging,
    occupancy := occupancy a.resolution a.sampleTicks a.averaging }

/-- The entry joins the tail of the queue, and the arbiter decides (R116). -/
def joinQueue (p : Port) (e : RequestEntry) (s : State) : State :=
  arbitrate (setRequests p (look s.requests p ++ [e]) s)

/-- SUBMIT with its arguments in range (R115, R116). -/
def submitEntry (p : Port) (tag : Byte) (a : SubmitArgs) (s : State) : Decision :=
  let e := a.entry tag
  match submitRight p (look s.channels a.channel) with
  | some st => refuseCounted st p s
  | none =>
    if tagInUse s p tag then refuseCounted .badArgument p s
    else if 8 ≤ (look s.requests p).length then refuseCounted .full p s
    else if !withinGap e.occupancy (activeGap s) then
      (s, .built .unschedulable (half e.occupancy ++ gapField (activeGap s)))
    else
      (joinQueue p e s,
        .built .ok ([byte ((look s.requests p).length + 1)] ++ half e.occupancy ++ gapField (activeGap s)))

/-- SUBMIT (R115, R116). -/
def submitWith (p : Port) (payload : List Byte) (s : State) : Decision :=
  match payload with
  | [tag, ch, res, st, n] =>
    match submitArgs ch res st n with
    | none => refuseCounted .badArgument p s
    | some a => submitEntry p tag a s
  | _ => refuse .badLength s

/-- The state after a queued entry is cancelled: its CANCELLED record is offered, and the arbiter decides where it was the
head (R118). -/
def cancelEntry (p : Port) (tag : Byte) (s : State) : State :=
  let s1 := removeEntries .cancelledOnly (fun e => e.tag == tag) [p] s
  arbitrateIf (headLeft s.requests s1.requests) s1

/-- CANCEL (R118). -/
def cancelWith (p : Port) (payload : List Byte) (s : State) : Decision :=
  match payload with
  | [tag] =>
    if tagQueued s p tag then
      (cancelEntry p tag s, .built .ok [byte ((look s.requests p).filter fun e => e.tag != tag).length])
    else if tagInFlight s p tag then refuse .tooLate s
    else refuse .notFound s
  | _ => refuse .badLength s

/-! ### Meanings -/

/-- SUBMIT (R115 to R117). -/
def execSubmit (p : Port) (q : LinkSeq) (payload : List Byte) (s : State) : Result :=
  takeRequest p q 0x40 5 payload (inSession p (submitWith p payload)) s

/-- CANCEL (R118). -/
def execCancel (p : Port) (q : LinkSeq) (payload : List Byte) (s : State) : Result :=
  takeRequest p q 0x41 1 payload (inSession p (cancelWith p payload)) s

end Sys2Proof.Machine
end

