-- ==== Sys2Proof/Machine/Plans.lean ====
section
/-! DEFINITION. The plan unit: STAGE_ADD, STAGE_MOVE, STAGE_DROP, STAGE_TIMING, STAGE_CLEAR, COMMIT and PLAN_READ
(chapter 05). -/

namespace Sys2Proof.Machine

/-- An edit appended to the session's staging area, with the edit index and edit count of the reply (R90). -/
def appendEdit (p : Port) (e : Edit) (lead : List Byte) (s : State) : Decision :=
  let edits := look s.staging p
  (setStaging p (edits ++ [e]) s, .built .ok (lead ++ [byte edits.length, byte (edits.length + 1)]))

/-- The staging area holds 8 edits (R90). -/
def stagingFull (s : State) (p : Port) : Bool := decide (8 ≤ (look s.staging p).length)

/-- STAGE_ADD of a slot whose arguments are in range (R91). -/
def stageSlot (p : Port) (sl : Slot) (s : State) : Decision :=
  match look s.channels sl.channel with
  | .free => refuse .notOwner s
  | .reference => refuse .notOwner s
  | .settling o _ _ => if o = p then refuse .wrongMode s else refuse .notOwner s
  | .digital o _ => if o = p then refuse .wrongMode s else refuse .notOwner s
  | .analog o _ =>
    if o ≠ p then refuse .notOwner s
    else if stagingFull s p then refuse .full s
    else
      match lowestFreeId s with
      | none => refuse .full s
      | some id => appendEdit p (.add { sl with id }) [byte id.val] s

/-- STAGE_ADD (R91). -/
def stageAddWith (p : Port) (payload : List Byte) (s : State) : Decision :=
  match payload with
  | [ch, hi, lo, st, res, d, o] =>
    match stageAddArgs p 0 ch hi lo st res d o with
    | none => refuse .badArgument s
    | some sl => stageSlot p sl s
  | _ => refuse .badLength s

/-- The checks of a target that STAGE_MOVE and STAGE_DROP share, then the edit appended (R92). -/
def stageTarget (p : Port) (id : SlotId) (e : Edit) (s : State) : Decision :=
  match nextSlot s id with
  | some sl =>
    if sl.owner ≠ p then refuse .notOwner s
    else if stagingFull s p then refuse .full s
    else appendEdit p e [] s
  | none =>
    if (reservedIds (look s.staging p)).contains id then
      if stagingFull s p then refuse .full s else appendEdit p e [] s
    else refuse .notFound s

/-- STAGE_MOVE (R92). -/
def stageMoveWith (p : Port) (payload : List Byte) (s : State) : Decision :=
  match payload with
  | [b, hi, lo] =>
    match slotIdArg b, within 0 65534 (be16 hi lo) with
    | some id, some phase => stageTarget p id (.move id phase) s
    | _, _ => refuse .badArgument s
  | _ => refuse .badLength s

/-- STAGE_DROP (R92). -/
def stageDropWith (p : Port) (payload : List Byte) (s : State) : Decision :=
  match payload with
  | [b] =>
    match slotIdArg b with
    | some id => stageTarget p id (.drop id) s
    | none => refuse .badArgument s
  | _ => refuse .badLength s

/-- The edit is a TIMING edit. -/
def Edit.isTiming : Edit → Bool
  | .timing _ => true
  | .add _ => false
  | .move _ _ => false
  | .drop _ => false

/-- STAGE_TIMING of a timing in range: placed at the tail, or in the place of the TIMING edit already there (R93). -/
def stageTimingRecord (p : Port) (t : Timing) (s : State) : Decision :=
  let edits := look s.staging p
  if s.timebase.holder ≠ some p then refuse .notOwner s
  else if edits.any Edit.isTiming then
    (setStaging p (edits.map fun e => if e.isTiming then .timing t else e) s,
      .built .ok [byte (edits.findIdx Edit.isTiming), byte edits.length])
  else if stagingFull s p then refuse .full s
  else appendEdit p (.timing t) [] s

/-- STAGE_TIMING (R93). -/
def stageTimingWith (p : Port) (payload : List Byte) (s : State) : Decision :=
  match payload with
  | [fHi, fLo, m, wHi, wLo] =>
    match timingArgs fHi fLo m wHi wLo with
    | none => refuse .badArgument s
    | some t => stageTimingRecord p t s
  | _ => refuse .badLength s

/-- STAGE_CLEAR (R94). -/
def stageClearWith (p : Port) (s : State) : Decision :=
  (setStaging p [] s, .built .ok [byte (look s.staging p).length])

/-! ### COMMIT -/

/-- The ids of slots that leave the hub at step 3 of a successful COMMIT: they stood in the next plan, stand no more in the
copy, and do not stand in the active plan (R98). -/
def leavingHub (s : State) (c : PlanCopy) : List SlotId :=
  ((s.nextPlan.map (·.id)).filter fun id => !(c.slots.any fun x => x.id == id) && !inActive s id)

/-- Steps 1 to 3 of a successful COMMIT (R98). -/
def installCopy (p : Port) (c : PlanCopy) (s : State) : State :=
  (leavingHub s c).foldl detachLeaving
    { s with nextPlan := c.slots, nextTiming := c.timing, staging := put s.staging p [] }

/-- The payload of a successful COMMIT: effective frame, slot count and largest gap of the next plan (R98). -/
def commitPayload (effective : Nat) (s : State) : List Byte :=
  half effective ++ [byte s.nextPlan.length] ++ gapField (nextGap s)

/-- A successful COMMIT (R98, R99): noted and ACCEPTED while a frame is running, applied at once and OK otherwise. The arbiter
decides in both cases, also where the copy equals the plan it replaces; that is the model's choice (log 29). -/
def commitCopy (p : Port) (c : PlanCopy) (s : State) : Decision :=
  let s1 := installCopy p c s
  if running s then
    (arbitrate (setNoted p true s1), .built .accepted (commitPayload (s.timebase.frameNumber + 1).toNat s1))
  else (immediateApply s1, .built .ok (commitPayload 0 s1))

/-- A COMMIT that fails: the Failing Edit and the edit count (R100). -/
def commitFailed (p : Port) (st : Status) (failing : Nat) (s : State) : Decision :=
  (s, .built st [byte failing, byte (look s.staging p).length])

/-- COMMIT (R95 to R100). -/
def commitWith (p : Port) (payload : List Byte) (s : State) : Decision :=
  match payload with
  | [n] =>
    let edits := look s.staging p
    if 8 < n.toNat ∨ n.toNat ≠ edits.length then commitFailed p .badArgument edits.length s
    else if edits = [] then (s, .built .ok (commitPayload 0 s))
    else
      match buildCopy s p with
      | .error (i, st) => commitFailed p st i s
      | .ok c =>
        if feasible c.timing c.slots then commitCopy p c s
        else commitFailed p .infeasible (failingEdit c edits) s
  | _ => refuse .badLength s

/-- PLAN_READ (R111). -/
def planReadWith (payload : List Byte) (s : State) : Decision :=
  match payload with
  | [b] => if 23 < b.toNat then refuse .badArgument s else (s, .reading (.plan b.toNat))
  | _ => refuse .badLength s

/-! ### Meanings -/

/-- STAGE_ADD (R91). -/
def execStageAdd (p : Port) (q : LinkSeq) (payload : List Byte) (s : State) : Result :=
  takeRequest p q 0x30 7 payload (inSession p (stageAddWith p payload)) s

/-- STAGE_MOVE (R92). -/
def execStageMove (p : Port) (q : LinkSeq) (payload : List Byte) (s : State) : Result :=
  takeRequest p q 0x31 3 payload (inSession p (stageMoveWith p payload)) s

/-- STAGE_DROP (R92). -/
def execStageDrop (p : Port) (q : LinkSeq) (payload : List Byte) (s : State) : Result :=
  takeRequest p q 0x32 1 payload (inSession p (stageDropWith p payload)) s

/-- STAGE_TIMING (R93). -/
def execStageTiming (p : Port) (q : LinkSeq) (payload : List Byte) (s : State) : Result :=
  takeRequest p q 0x33 5 payload (inSession p (stageTimingWith p payload)) s

/-- STAGE_CLEAR (R94). -/
def execStageClear (p : Port) (q : LinkSeq) (payload : List Byte) (s : State) : Result :=
  takeRequest p q 0x34 0 payload (inSession p (stageClearWith p)) s

/-- COMMIT (R95 to R100). -/
def execCommit (p : Port) (q : LinkSeq) (payload : List Byte) (s : State) : Result :=
  takeRequest p q 0x35 1 payload (inSession p (commitWith p payload)) s

/-- PLAN_READ (R111). -/
def execPlanRead (p : Port) (q : LinkSeq) (payload : List Byte) (s : State) : Result :=
  takeRequest p q 0x36 1 payload (inSession p (planReadWith payload)) s

end Sys2Proof.Machine
end

