-- ==== Sys2Proof/Machine/Dispatch.lean ====
section
/-! DEFINITION. One arm per command, each a direct call of its meaning. -/

namespace Sys2Proof.Machine

def exec (i : Instr) (s : State) : Host.Outcome State Fault Refusal :=
  match i with
  | .identify p q payload => Sys2Proof.Machine.execIdentify p q payload s
  | .openSession p q payload => Sys2Proof.Machine.execOpenSession p q payload s
  | .closeSession p q payload => Sys2Proof.Machine.execCloseSession p q payload s
  | .renew p q payload => Sys2Proof.Machine.execRenew p q payload s
  | .status p q payload => Sys2Proof.Machine.execStatus p q payload s
  | .claim p q payload => Sys2Proof.Machine.execClaim p q payload s
  | .release p q payload => Sys2Proof.Machine.execRelease p q payload s
  | .subscribe p q payload => Sys2Proof.Machine.execSubscribe p q payload s
  | .unsubscribe p q payload => Sys2Proof.Machine.execUnsubscribe p q payload s
  | .pinSetup p q payload => Sys2Proof.Machine.execPinSetup p q payload s
  | .pinDrive p q payload => Sys2Proof.Machine.execPinDrive p q payload s
  | .pinRead p q payload => Sys2Proof.Machine.execPinRead p q payload s
  | .channelInfo p q payload => Sys2Proof.Machine.execChannelInfo p q payload s
  | .claimReference p q payload => Sys2Proof.Machine.execClaimReference p q payload s
  | .releaseReference p q payload => Sys2Proof.Machine.execReleaseReference p q payload s
  | .selectReference p q payload => Sys2Proof.Machine.execSelectReference p q payload s
  | .referenceRead p q payload => Sys2Proof.Machine.execReferenceRead p q payload s
  | .claimTimebase p q payload => Sys2Proof.Machine.execClaimTimebase p q payload s
  | .releaseTimebase p q payload => Sys2Proof.Machine.execReleaseTimebase p q payload s
  | .timebaseRead p q payload => Sys2Proof.Machine.execTimebaseRead p q payload s
  | .stageAdd p q payload => Sys2Proof.Machine.execStageAdd p q payload s
  | .stageMove p q payload => Sys2Proof.Machine.execStageMove p q payload s
  | .stageDrop p q payload => Sys2Proof.Machine.execStageDrop p q payload s
  | .stageTiming p q payload => Sys2Proof.Machine.execStageTiming p q payload s
  | .stageClear p q payload => Sys2Proof.Machine.execStageClear p q payload s
  | .commit p q payload => Sys2Proof.Machine.execCommit p q payload s
  | .planRead p q payload => Sys2Proof.Machine.execPlanRead p q payload s
  | .submit p q payload => Sys2Proof.Machine.execSubmit p q payload s
  | .cancel p q payload => Sys2Proof.Machine.execCancel p q payload s
  | .fetchResults p q payload => Sys2Proof.Machine.execFetchResults p q payload s
  | .peekLatest p q payload => Sys2Proof.Machine.execPeekLatest p q payload s
  | .attachMonitor p q payload => Sys2Proof.Machine.execAttachMonitor p q payload s
  | .detachMonitor p q payload => Sys2Proof.Machine.execDetachMonitor p q payload s
  | .monitorRead p q payload => Sys2Proof.Machine.execMonitorRead p q payload s
  | .fetchEvents p q payload => Sys2Proof.Machine.execFetchEvents p q payload s
  | .collectTransaction p lands count => Sys2Proof.Machine.execCollectTransaction p lands count s
  | .frameDiscarded p bytes => Sys2Proof.Machine.execFrameDiscarded p bytes s
  | .retransmission p q code payload => Sys2Proof.Machine.execRetransmission p q code payload s
  | .unknownRequest p q code payload => Sys2Proof.Machine.execUnknownRequest p q code payload s
  | .replyStored p => Sys2Proof.Machine.execReplyStored p s
  | .syncEdge => Sys2Proof.Machine.execSyncEdge s
  | .deviceReset cause => Sys2Proof.Machine.execDeviceReset cause s
  | .resetEnd => Sys2Proof.Machine.execResetEnd s
  | .analogSettleEnd ch => Sys2Proof.Machine.execAnalogSettleEnd ch s
  | .referenceSettleEnd => Sys2Proof.Machine.execReferenceSettleEnd s
  | .frameBoundary => Sys2Proof.Machine.execFrameBoundary s
  | .huntingLimit => Sys2Proof.Machine.execHuntingLimit s
  | .phaseArrival => Sys2Proof.Machine.execPhaseArrival s
  | .conversionEnd => Sys2Proof.Machine.execConversionEnd s
  | .leaseFall p => Sys2Proof.Machine.execLeaseFall p s
  | .leaseExpiry p => Sys2Proof.Machine.execLeaseExpiry p s

end Sys2Proof.Machine
end

