-- ==== Sys2Proof/Machine/Idle.lean ====
section
/-! DEFINITION. What the hub does while no command waits (log 1, 5, 9). -/

namespace Sys2Proof.Machine

/-- What the hub does while no command waits: during a device reset only the selects move; else an event that is due, or a
tick. -/
def idleStep (s : State) : Host.Outcome State Fault Refusal :=
  if s.inReset then .next (sampleSelects s)
  else
    match idleChoice s with
    | some c => exec c { s with moment := s.moment + 1 }
    | none => .next (tick s)

end Sys2Proof.Machine
end

