-- ==== Sys2Proof/WellFormed.lean ====
section
/-! DEFINITION. Which commands are well formed: what can pass on a port's lines at all. -/

namespace Sys2Proof

/-- A payload fits its length byte: 0 to 16 bytes (11 R186). -/
def payloadFits (payload : List Byte) : Bool := payload.length ≤ 16

/-- A request frame's payload fits; a frame named by its code does not carry the collect code (R182); an unknown request's
code names no request (R190); a transaction counts at least one whole byte (R182), and a request transaction's first byte is
not the collect code. -/
def wellFormed : Instr → Bool
  | .identify _ _ b | .openSession _ _ b | .closeSession _ _ b | .renew _ _ b | .status _ _ b
  | .claim _ _ b | .release _ _ b | .subscribe _ _ b | .unsubscribe _ _ b | .pinSetup _ _ b | .pinDrive _ _ b
  | .pinRead _ _ b | .channelInfo _ _ b | .claimReference _ _ b | .releaseReference _ _ b | .selectReference _ _ b
  | .referenceRead _ _ b | .claimTimebase _ _ b | .releaseTimebase _ _ b | .timebaseRead _ _ b | .stageAdd _ _ b
  | .stageMove _ _ b | .stageDrop _ _ b | .stageTiming _ _ b | .stageClear _ _ b | .commit _ _ b | .planRead _ _ b
  | .submit _ _ b | .cancel _ _ b | .fetchResults _ _ b | .peekLatest _ _ b | .attachMonitor _ _ b
  | .detachMonitor _ _ b | .monitorRead _ _ b | .fetchEvents _ _ b => payloadFits b
  | .collectTransaction _ _ count => decide (0 < count)
  | .frameDiscarded _ bytes => decide (bytes ≠ [] ∧ bytes.head? ≠ some collectCode)
  | .retransmission _ _ code b => payloadFits b && code != collectCode
  | .unknownRequest _ _ code b => payloadFits b && code != collectCode && !namesRequest code
  | .replyStored _ => true
  | .syncEdge => true
  | .deviceReset _ => true
  | .resetEnd => true
  | .analogSettleEnd _ => true
  | .referenceSettleEnd => true
  | .frameBoundary => true
  | .huntingLimit => true
  | .phaseArrival => true
  | .conversionEnd => true
  | .leaseFall _ => true
  | .leaseExpiry _ => true

end Sys2Proof
end

