-- ==== Sys2Proof/Safety.lean ====
section
/-! DEFINITION. What counts as a safe run: no step stops, and the laws that the manual gives the state hold. Each law is a
predicate of its own, so that a statement names the laws it rests on. -/

namespace Sys2Proof.Machine

/-- A step goes on. -/
def Result.goesOn (r : Result) : Prop := ∃ t, r = .next t

/-! ### Laws of the queues -/

/-- Every queue, staging area and count lies within its capacity (05 R90; 06 R113; 07 R133; 09 R160; 11 R181). -/
def queuesBounded (s : State) : Prop :=
  ∀ p : Port, (look s.results p).records.length ≤ 32 ∧ (look s.results p).overflow ≤ 65535
    ∧ (look s.events p).records.length ≤ 16 ∧ (look s.events p).lost ≤ 255
    ∧ (look s.requests p).length ≤ 8 ∧ (look s.staging p).length ≤ 8
    ∧ (look s.ports p).linkErrors ≤ 65535

/-- The sequence numbers of `n` records that end just before the next sequence number (07 R133). -/
def sequenceRun (next : Half) (n : Nat) : List Half := (List.range n).map fun i => next - BitVec.ofNat 16 (n - i)

/-- The records of every result queue carry consecutive sequence numbers, up to the one before the next (07 R133). -/
def sequencesConsecutive (s : State) : Prop :=
  ∀ p : Port, (look s.results p).records.map (·.sequence)
    = sequenceRun (look s.results p).nextSequence (look s.results p).records.length

/-- No queue holds one Tag twice, nor the Tag of the session's conversion in flight (06 R113). -/
def tagsDistinct (s : State) : Prop :=
  ∀ p : Port, ((look s.requests p).map (·.tag)).Nodup
    ∧ ∀ c, s.inFlight = some c → c.session = p → c.discard = false →
        ∀ e ∈ look s.requests p, c.source ≠ .request e.tag

/-! ### Laws of the channels, the reference and the converter -/

/-- A subscriber list holds at most three sessions, none twice, never the owner (02 R24). -/
def subscribersLawful (s : State) : Prop :=
  ∀ ch : Channel, (look s.channels ch).subscribers.length ≤ 3 ∧ (look s.channels ch).subscribers.Nodup
    ∧ ∀ o, (look s.channels ch).owner = some o → o ∉ (look s.channels ch).subscribers

/-- Channel 11 is in REFERENCE exactly while the reference unit is out of steady internal operation, and no other channel is
ever in REFERENCE (02 R27). -/
def referenceChannelLawful (s : State) : Prop :=
  (look s.channels 11 = .reference ↔ s.reference.state ≠ .steady .internal false)
    ∧ ∀ ch : Channel, ch ≠ 11 → look s.channels ch ≠ .reference

/-- No conversion is in flight while the reference settles, and a switch waits for its settle only while one is (01 R3,
03 R54, R55). -/
def converterLawful (s : State) : Prop :=
  (∀ t n due, s.reference.state = .settling t n due → s.inFlight = none)
    ∧ ∀ r, s.reference.state = .steady r true → s.inFlight ≠ none

/-- While the reference role has no holder, the unit is in steady internal operation or heading toward it (03 R60). -/
def holderLawful (s : State) : Prop :=
  s.reference.holder = none →
    s.reference.state = .steady .internal false ∨ s.reference.state = .steady .external true
      ∨ ∃ n due, s.reference.state = .settling .internal n due

/-- A conversion in flight ends one occupancy after its start (01 R2), and takes no more samples than N. -/
def inFlightLawful (s : State) : Prop :=
  ∀ c, s.inFlight = some c →
    c.plannedEnd = c.startTick + occupancy c.resolution c.sampleTicks c.averaging
      ∧ c.samples.length ≤ c.averaging.count

/-! ### Laws of the timebase and the plans -/

/-- The timebase is STOPPED exactly when the active plan holds no slot (04 4.5). -/
def stoppedLawful (s : State) : Prop := s.timebase.state = .stopped ↔ s.activePlan = []

/-- A timing record lies within its ranges (04 R63). -/
def Timing.lawful (t : Timing) : Prop :=
  200 ≤ t.frameLength ∧ t.frameLength ≤ 65535 ∧ t.window ≤ t.frameLength / 8

/-- Both timing records and every staged TIMING edit lie within their ranges (04 R63). -/
def timingsLawful (s : State) : Prop :=
  s.activeTiming.lawful ∧ s.nextTiming.lawful ∧ ∀ p : Port, ∀ t, Edit.timing t ∈ look s.staging p → t.lawful

/-- The counts of the timebase lie in the ranges of 04 R64: while a frame is running, Elapsed is below the frame's own end,
and its boundary is due only at the last value; without a frame, Elapsed and Frame Number are 0; Hunt Elapsed is at most 4F; the
Miss Count is at most 3, and at most 2 in LOCKED; the Spurious Count is at most 65,535. -/
def timebaseCountsLawful (s : State) : Prop :=
  (running s = true →
      s.timebase.elapsed < s.activeTiming.frameEnd s.timebase.state
        ∧ (s.timebase.boundaryDue = true → s.timebase.elapsed + 1 = s.activeTiming.frameEnd s.timebase.state))
    ∧ (running s = false →
      s.timebase.elapsed = 0 ∧ s.timebase.frameNumber = 0 ∧ s.timebase.boundaryDue = false)
    ∧ (∀ n, s.timebase.state = .hunting n → n ≤ 4 * s.activeTiming.frameLength)
    ∧ s.timebase.missCount ≤ 3 ∧ (s.timebase.state = .locked → s.timebase.missCount ≤ 2)
    ∧ s.timebase.spuriousCount ≤ 65535

/-- The counts of settles and leases lie in the ranges of 02 R23, 03 R49 and 10 R168, and an end or a fall is due only at the
last value of its count. -/
def countsInRange (s : State) : Prop :=
  (∀ ch o n due, look s.channels ch = .settling o n due → 1 ≤ n ∧ n ≤ 240 ∧ (due = true → n = 1))
    ∧ (∀ t n due, s.reference.state = .settling t n due → 1 ≤ n ∧ n ≤ 400 ∧ (due = true → n = 1))
    ∧ ∀ p l, (look s.sessions p).state = .opened l →
      5 ≤ l.leaseLength ∧ l.leaseLength ≤ 5000 ∧ l.leaseRemaining ≤ l.leaseLength ∧ l.leaseTick ≤ 1999
        ∧ (l.fallDue = true → l.leaseTick = 1999) ∧ 1 ≤ l.watermark ∧ l.watermark ≤ 32

/-- Both plans are feasible under their own timing (05 R85). -/
def plansFeasible (s : State) : Prop :=
  feasible s.nextTiming s.nextPlan = true ∧ feasible s.activeTiming (s.activePlan.map (·.slot)) = true

/-- All ids reserved in the four staging areas. -/
def allReserved (s : State) : List SlotId := allPorts.flatMap fun p => reservedIds (look s.staging p)

/-- Each slot id is free, reserved by one ADD in one staging area, or names one slot (05 R89). -/
def idPoolLawful (s : State) : Prop :=
  (s.nextPlan.map (·.id)).Nodup ∧ (s.activePlan.map fun a => a.slot.id).Nodup ∧ (allReserved s).Nodup
    ∧ ∀ id ∈ allReserved s, inNext s id = false ∧ inActive s id = false

/-- Every slot of the next plan, and every slot of the active plan that is not void, belongs to a session that holds the
slot's channel in ANALOG (05 R86). -/
def plansHeld (s : State) : Prop :=
  (∀ sl ∈ s.nextPlan, holdsAnalog s sl.owner sl.channel = true)
    ∧ ∀ a ∈ s.activePlan, a.void = false → holdsAnalog s a.slot.owner a.slot.channel = true

/-- A slot has at most one monitor (08 R146). -/
def monitorsDistinct (s : State) : Prop :=
  ∀ (m n : MonitorId) (a b : Monitor),
    look s.monitors m = some a → look s.monitors n = some b → a.slot = b.slot → m = n

/-! ### The law of ended sessions -/

/-- The session holds nothing: no queued record, event, request or edit, no note, no channel, subscription, monitor, role or
slot of the next plan, and its slots of the active plan are void (10 R177). -/
def holdsNothing (s : State) (p : Port) : Prop :=
  look s.requests p = [] ∧ look s.staging p = [] ∧ look s.noted p = false
    ∧ (look s.results p).records = [] ∧ (look s.events p).records = []
    ∧ (∀ ch : Channel, (look s.channels ch).owner ≠ some p ∧ p ∉ (look s.channels ch).subscribers)
    ∧ (∀ (m : MonitorId) (r : Monitor), look s.monitors m = some r → r.owner ≠ p)
    ∧ s.reference.holder ≠ some p ∧ s.timebase.holder ≠ some p
    ∧ (∀ sl ∈ s.nextPlan, sl.owner ≠ p) ∧ (∀ a ∈ s.activePlan, a.slot.owner = p → a.void = true)

/-- A session that is not OPEN holds nothing (10 R177). -/
def endedHoldNothing (s : State) : Prop := ∀ p : Port, isOpen s p = false → holdsNothing s p

/-! ### The port's side of a request -/

/-- The port takes the frame as a new request: no device reset, the select not ignored, the port not Busy, the payload within
its length byte, and the frame not the Last Frame again (11 R181, R188, R189). -/
def takesNew (s : State) (p : Port) (code : Byte) (q : LinkSeq) (payload : List Byte) : Prop :=
  hears s p = true ∧ (look s.ports p).processing = none ∧ payload.length ≤ 16
    ∧ (look s.ports p).lastFrame ≠ some (lastFrameOf code q payload)

/-- The answer that a port holds for the request it is carrying out. -/
def heldAnswer (t : State) (p : Port) : Option Answer := (look t.ports p).processing.map (·.answer)

/-- The two states agree on every port but one. -/
def otherPortsSame (s t : State) (p : Port) : Prop := ∀ x : Port, x ≠ p → look t.ports x = look s.ports x

/-- The port after it has taken a new request frame and holds its answer: its select high, the status byte of the select fall
and 0x00 for each further byte shifted out (11 R182, R184, R185), the Last Frame replaced, the Stored Reply discarded, Frame
Error and Overrun cleared, Busy set (11 R188 to R190). -/
def carrying (s : State) (p : Port) (code : Byte) (q : LinkSeq) (payload : List Byte) (a : Answer) : LinkPort :=
  { look s.ports p with
    select := .high
    sdo := capturedStatus s p :: List.replicate (3 + payload.length) 0x00
    lastFrame := some (lastFrameOf code q payload)
    storedReply := none
    processing := some { code, seq := q, answer := a }
    frameError := false
    overrun := false }

/-- The state `t` with the port of `s` carrying out a new request whose answer is `a`. -/
def answered (s t : State) (p : Port) (code : Byte) (q : LinkSeq) (payload : List Byte) (a : Answer) : State :=
  { t with ports := put s.ports p (carrying s p code q payload a) }

/-- The bytes of a transaction are not a whole request frame: fewer than 3 bytes, a length byte above 16, a count other than
4 + n, a CRC that does not match, or a control byte whose high half is not 0 (11 R188). -/
def damagedBytes (bytes : List Byte) : Prop :=
  bytes.length < 3 ∨ 16 < (bytes.getD 2 0).toNat ∨ bytes.length ≠ 4 + (bytes.getD 2 0).toNat
    ∨ bytes.getLast? ≠ some (crc8 bytes.dropLast) ∨ 16 ≤ (bytes.getD 1 0).toNat

/-- The request codes with the payload lengths of 11.6.1. -/
def requestLengths : List (Byte × Nat) :=
  [(0x01, 0), (0x02, 4), (0x03, 0), (0x04, 2), (0x05, 0), (0x10, 2), (0x11, 1), (0x12, 1), (0x13, 1), (0x14, 3), (0x15, 2),
    (0x16, 1), (0x17, 1), (0x20, 0), (0x21, 0), (0x22, 1), (0x23, 0), (0x28, 0), (0x29, 0), (0x2A, 0)]
    ++ [(0x30, 7), (0x31, 3), (0x32, 1), (0x33, 5), (0x34, 0), (0x35, 1), (0x36, 1), (0x40, 5), (0x41, 1), (0x48, 1),
      (0x49, 1), (0x50, 6), (0x51, 1), (0x52, 1), (0x58, 1)]

/-! ### What withdrawals and session ends leave -/

/-- The CANCELLED record of a queued entry (06 R120). -/
def cancelledRecord (s : State) (e : RequestEntry) : ResultRecord :=
  { sequence := 0, source := .request e.tag, channel := e.channel, resolution := e.resolution,
    reference := s.reference.state.named, averaging := e.averaging,
    flags := { late := false, missed := false, cancelled := true, unschedulable := false, monitorCross := false },
    value := none, frame := none, startPhase := none, lateness := none }

/-- The result queue of a session after the CANCELLED records of some entries have been offered to it in turn (06 R120,
07 R130). -/
def afterCancelled (s : State) (x : Port) (gone : List RequestEntry) : ResultQueue :=
  match (look s.sessions x).lease with
  | some l => gone.foldl (fun q e => enqueue l.policy (cancelledRecord s e) q) (look s.results x)
  | none => look s.results x

/-- The queues of `w` are those of `s` after the users of a channel have been withdrawn (02 R30): the entries of its owner
and its subscribers on the channel are gone, each with a CANCELLED record, and each subscriber was offered CHANNEL_LOST. -/
def usersWithdrawn (s w : State) (ch : Channel) (cause : LossCause) (owner : Port) (subs : List Port) : Prop :=
  ∀ x : Port,
    look w.requests x
        = (if x = owner ∨ x ∈ subs then (look s.requests x).filter (fun e => e.channel != ch) else look s.requests x)
      ∧ look w.results x
        = (if x = owner ∨ x ∈ subs then afterCancelled s x ((look s.requests x).filter fun e => e.channel == ch)
            else look s.results x)
      ∧ look w.events x
        = (if x ∈ subs ∧ isOpen s x = true then
            enqueueEvent { kind := .channelLost ch cause, frame := s.timebase.frameNumber } (look s.events x)
          else look s.events x)

/-- An event offered to every OPEN session (09 R160, R161). -/
def offeredToAll (s : State) (k : EventKind) (frame : Half) (before after : Vector EventQueue 4) : Prop :=
  ∀ x : Port, look after x = if isOpen s x = true then enqueueEvent { kind := k, frame } (look before x) else look before x

/-- The channels that a session end takes from one of their subscribers: those that the ended session owns in ANALOG and
whose list holds the subscriber, in ascending order (02 R47). -/
def lostChannels (s : State) (ended x : Port) : List Channel :=
  allChannels.filter fun ch => (look s.channels ch).owner == some ended && (look s.channels ch).subscribers.contains x

/-- The entries that a session end takes from the queue of a subscriber, channel by channel and in queue order (02 R30, R47). -/
def lostEntries (s : State) (ended x : Port) : List RequestEntry :=
  (lostChannels s ended x).flatMap fun ch => (look s.requests x).filter fun e => e.channel == ch

/-- A channel record after the end of a session: FREE where the session owned it, else without the session in its list
(02 R47). -/
def channelAfterEnd (p : Port) : ChannelRec → ChannelRec
  | .free => .free
  | .reference => .reference
  | .digital o d => if o = p then .free else .digital o d
  | .settling o n due => if o = p then .free else .settling o n due
  | .analog o subs => if o = p then .free else .analog o (subs.filter fun x => x != p)

/-- The conversion in flight after the end of a session (01 R11 to R14, R22): Discard for the session's own request and for a
slot of the session that still stands in the active plan, a skip mark on the session among the recipients of a slot conversion
(log 16), and the Monitor field cleared where the session owned the monitor. -/
def flightAfterEnd (s : State) (p : Port) (c : InFlight) : InFlight :=
  { c with
    discard := c.discard || match c.source with
      | .request _ => c.session == p
      | .slot id => c.slotStands && s.activePlan.any fun a => a.slot.id == id && a.slot.owner == p
    recipients := match c.source with
      | .request _ => c.recipients
      | .slot _ => c.recipients.map fun r => if r.session = p then { r with skipped := true } else r
    monitor := c.monitor.filter fun m => match look s.monitors m with | some r => r.owner != p | none => true }

/-- What the end of a session does to the reference record and to channel 11, which the reference unit holds while it is out of
steady internal operation (03 R56, R61). -/
def referenceAfterEnd (s w : State) (p : Port) : Prop :=
  (s.reference.holder ≠ some p → w.reference = s.reference)
    ∧ (s.reference.holder = some p → w.reference.holder = none
      ∧ (s.reference.state = .steady .internal false → w.reference.state = .steady .internal false)
      ∧ (s.reference.state = .steady .internal true →
        w.reference.state = .steady .internal false ∧ look w.channels 11 = .free)
      ∧ (s.reference.state = .steady .external false →
        w.reference.state = if s.inFlight = none then .settling .internal 400 false else .steady .external true)
      ∧ (s.reference.state = .steady .external true → w.reference.state = .steady .external true)
      ∧ (∀ n due, s.reference.state = .settling .external n due → w.reference.state = .settling .internal 400 false)
      ∧ ∀ n due, s.reference.state = .settling .internal n due → w.reference.state = .settling .internal n due)
    ∧ ∀ ch : Channel, (ch ≠ 11 ∨ s.reference.holder ≠ some p ∨ s.reference.state ≠ .steady .internal true) →
      look w.channels ch = channelAfterEnd p (look s.channels ch)

/-- What the end of one session leaves (10 R177), before the arbiter decides: the State has left OPEN; the session's queues,
staging area, note and next-plan slots are gone, its active-plan slots void, its channels FREE with invalid latest values, its
monitors free, its roles given up; each subscriber of its channels has lost its entries on them with CANCELLED records and was
offered CHANNEL_LOST; everything else stands as it was. -/
def sessionEnded (left : SessionState) (s w : State) (p : Port) : Prop :=
  w = { s with
      sessions := put s.sessions p { look s.sessions p with state := left }
      staging := put s.staging p []
      noted := put s.noted p false
      nextPlan := s.nextPlan.filter fun sl => sl.owner != p
      activePlan := s.activePlan.map fun a => if a.slot.owner = p then
          { a with void := true, progress := if a.progress = .pending then .done else a.progress } else a
      timebase := { s.timebase with holder := if s.timebase.holder = some p then none else s.timebase.holder }
      inFlight := s.inFlight.map (flightAfterEnd s p)
      channels := w.channels, reference := w.reference, latest := w.latest, monitors := w.monitors
      requests := w.requests, results := w.results, events := w.events }
    ∧ referenceAfterEnd s w p
    ∧ (∀ ch : Channel, look w.latest ch = if (look s.channels ch).owner = some p then none else look s.latest ch)
    ∧ (∀ m : MonitorId, look w.monitors m = (look s.monitors m).filter fun r => r.owner != p)
    ∧ look w.requests p = []
    ∧ look w.results p = { look s.results p with records := [], overflow := 0 }
    ∧ look w.events p = { records := [], lost := 0 }
    ∧ ∀ x : Port, x ≠ p →
      look w.requests x = (look s.requests x).filter (fun e => !(lostChannels s p x).contains e.channel)
        ∧ look w.results x = afterCancelled s x (lostEntries s p x)
        ∧ look w.events x = if isOpen s x = true then
            (lostChannels s p x).foldl
              (fun qu ch => enqueueEvent { kind := .channelLost ch .ownerEnded, frame := s.timebase.frameNumber } qu)
              (look s.events x)
          else look s.events x

/-- A session end is a decision event: it took the head of a queue, voided a slot, or changed the next plan while a frame is
running (01 R15, R22). -/
def endIsDecision (s w : State) (p : Port) : Prop :=
  headLeft s.requests w.requests = true ∨ (∃ a ∈ s.activePlan, a.slot.owner = p ∧ a.void = false)
    ∨ (running s = true ∧ ∃ sl ∈ s.nextPlan, sl.owner = p)

/-! ### What misses, starts of frames, boundaries and applies leave -/

/-- The MISSED record of a slot (05 R108, 07 R128). -/
def missedRecord (s : State) (frame : Half) (sl : Slot) : ResultRecord :=
  { sequence := 0, source := .slot sl.id, channel := sl.channel, resolution := sl.resolution,
    reference := s.reference.state.named, averaging := .one,
    flags := { late := false, missed := true, cancelled := false, unschedulable := false, monitorCross := false },
    value := none, frame := some frame, startPhase := some sl.phase, lateness := none }

/-- The result queues after the miss of a slot has been offered to its owner and then to its channel's subscribers in list order
(05 R108, 07 R131). -/
def afterMissed (s : State) (frame : Half) (sl : Slot) (rs : Vector ResultQueue 4) : Vector ResultQueue 4 :=
  (sl.owner :: (look s.channels sl.channel).subscribers).foldl
    (fun v x => offeredResult s.sessions v (missedRecord s frame sl, x)) rs

/-- The phase-0 arrival of a frame that starts in `s`, with every arrival still to come (05 R105): `w` is the state after it. -/
def zeroArrival (s w : State) : Prop :=
  ((∀ a ∈ s.activePlan, a.slot.phase ≠ 0) → w = s)
    ∧ ∀ before a after, s.activePlan = before ++ a :: after → (∀ x ∈ before, x.slot.phase ≠ 0) → a.slot.phase = 0 →
      (a.void = true ∨ s.timebase.frameNumber.toNat % a.slot.decimation ≠ a.slot.frameOffset →
        w = { s with activePlan := before ++ { a with arrived := true } :: after })
      ∧ (a.void = false → s.timebase.frameNumber.toNat % a.slot.decimation = a.slot.frameOffset →
        ((∃ r, s.reference.state = .steady r false) →
          w = { s with activePlan := before ++ { a with arrived := true, progress := .pending } :: after })
        ∧ ((∀ r, s.reference.state ≠ .steady r false) →
          w = { s with
            activePlan := before ++ { a with arrived := true, progress := .done, missed := true } :: after
            results := afterMissed s s.timebase.frameNumber a.slot s.results }))

/-- Frame 0 has started in `v` (04 R77), its phase-0 arrival still to come: frame number, Elapsed and both counts 0, every slot
IDLE, and the broadcasts offered in order with frame number 0. -/
def frameZero (st : TimebaseState) (broadcasts : List EventKind) (s v : State) : Prop :=
  v = { s with
    timebase := { state := st, frameNumber := 0, elapsed := 0, boundaryDue := false, missCount := 0, spuriousCount := 0,
                  holder := s.timebase.holder }
    activePlan := s.activePlan.map fun a =>
      { a with progress := .idle, lateness := none, missed := false, arrived := false }
    events := (broadcasts.flatMap fun k => allPorts.map fun x => (k, x)).foldl (offeredEvent s.sessions 0) s.events }

/-- The monitors of some slots, none named twice, have been freed (01 R14, 08 R155): MONITOR_DETACHED was offered to their
owners in the order of the slots, and a conversion in flight that named one has lost its Monitor field. -/
def monitorsFreed (ids : List SlotId) (s w : State) : Prop :=
  w = { s with
      events := (ids.filterMap fun id => (monitorOf s id).bind fun m =>
          (look s.monitors m).map fun r => (EventKind.monitorDetached m id, r.owner)).foldl
        (offeredEvent s.sessions s.timebase.frameNumber) s.events
      inFlight := s.inFlight.map fun c => { c with
        monitor := c.monitor.filter fun m => !(ids.filterMap (monitorOf s)).contains m }
      monitors := w.monitors }
    ∧ ∀ m : MonitorId, look w.monitors m = if m ∈ ids.filterMap (monitorOf s) then none else look s.monitors m

/-- The UNSCHEDULABLE record of a queued entry (06 R120). -/
def unschedulableRecord (s : State) (e : RequestEntry) : ResultRecord :=
  { cancelledRecord s e with
    flags := { late := false, missed := false, cancelled := false, unschedulable := true, monitorCross := false } }

/-- An entry that exceeds a largest gap; none exceeds an unbounded one (06 R121). -/
def exceeds (gap : Option Nat) (e : RequestEntry) : Bool :=
  match gap with
  | some g => decide (g < e.occupancy)
  | none => false

/-- The next plan has replaced the active plan, at a boundary or at an immediate apply (05 R99, R102, R104, 06 R121): monitors
of leaving slots that are not void are freed in phase order; the active plan is a fresh copy of the next plan and the timing
its timing; a conversion in flight keeps its slot only where that slot stays; and, where slots or timing differ, the activation
count has risen and every queue has lost the entries that exceed the new largest gap, with UNSCHEDULABLE records. -/
def planReplaced (s w : State) : Prop :=
  ∃ d, monitorsFreed ((s.activePlan.filter fun a => !a.void && !(s.nextPlan.any fun x => x.id == a.slot.id)).map
        fun a => a.slot.id) s d
    ∧ w = { d with
        activePlan := s.nextPlan.map fun x =>
          { slot := x, void := false, progress := .idle, lateness := none, missed := false, arrived := false }
        activeTiming := s.nextTiming
        inFlight := d.inFlight.map fun c => match c.source with
          | .slot id => { c with slotStands := c.slotStands && (s.nextPlan.any fun x => x.id == id)
              && !(s.activePlan.any fun a => a.void && a.slot.id == id) }
          | .request _ => c
        activationCount := w.activationCount, requests := w.requests, results := w.results }
    ∧ (s.nextPlan = s.activePlan.map (·.slot) ∧ s.nextTiming = s.activeTiming →
      w.activationCount = s.activationCount ∧ w.requests = s.requests ∧ w.results = s.results)
    ∧ (¬(s.nextPlan = s.activePlan.map (·.slot) ∧ s.nextTiming = s.activeTiming) →
      w.activationCount = s.activationCount + 1
        ∧ (∀ p : Port, look w.requests p
            = (look s.requests p).filter fun e => !exceeds (largestGap s.nextTiming s.nextPlan) e)
        ∧ w.results = allPorts.foldl (fun rs p =>
            ((look s.requests p).filter (exceeds (largestGap s.nextTiming s.nextPlan))).foldl
              (fun v e => offeredResult s.sessions v (unschedulableRecord s e, p)) rs) s.results)

/-- A frame has ended (04 R67 stage 1, 05 R102 step 1): the frame number has advanced, Elapsed is 0, the Miss Count has the
value the outcome gives, and each slot still PENDING is MISSED, its records carrying the number of the ended frame. -/
def frameEnded (misses : Nat) (s : State) : State :=
  { s with
    timebase := { s.timebase with
      frameNumber := s.timebase.frameNumber + 1, elapsed := 0, boundaryDue := false, missCount := misses }
    activePlan := s.activePlan.map fun a =>
      if a.progress = .pending then { a with progress := .done, missed := true } else a
    results := (s.activePlan.filter fun a => a.progress == .pending).foldl
      (fun rs a => afterMissed s s.timebase.frameNumber a.slot rs) s.results }

/-- The event queues after COMMIT_APPLIED has been offered to each noted session (05 R103). -/
def afterCommitApplied (w : State) : Vector EventQueue 4 :=
  ((allPorts.filter fun p => look w.noted p).map fun p => (EventKind.commitApplied w.timebase.frameNumber, p)).foldl
    (offeredEvent w.sessions w.timebase.frameNumber) w.events

/-- The new frame's state, Miss Count and broadcasts by the ended frame's state, the mode of the new timing and the outcome
(04 R70, R71). -/
def frameOpens (ended : TimebaseState) (accepted : Bool) (misses : Nat) (mode : TimingMode) (st : TimebaseState)
    (count : Nat) (broadcasts : List EventKind) : Prop :=
  (mode = .free → st = .freeRun ∧ count = 0 ∧ broadcasts = [])
    ∧ (mode = .external →
      (ended = .freeRun → st = .flywheel ∧ count = 0 ∧ broadcasts = [])
      ∧ (ended = .locked → accepted = true → st = .locked ∧ count = 0 ∧ broadcasts = [])
      ∧ (ended = .locked → accepted = false → misses < 3 → st = .locked ∧ count = misses ∧ broadcasts = [])
      ∧ (ended = .locked → accepted = false → 3 ≤ misses →
        st = .flywheel ∧ count = misses ∧ broadcasts = [.syncLost misses])
      ∧ (ended = .flywheel → accepted = true → st = .locked ∧ count = 0 ∧ broadcasts = [.syncLocked])
      ∧ (ended = .flywheel → accepted = false → st = .flywheel ∧ count = misses ∧ broadcasts = []))

/-- A frame boundary leads from `s` to `r` (04 R67 to R72, 05 R102 to R104). -/
def boundaryTaken (accepted : Bool) (misses : Nat) (s r : State) : Prop :=
  ∃ w, planReplaced (frameEnded misses s) w
    ∧ (s.nextPlan = [] →
      r = { w with
        noted := Vector.replicate 4 false
        timebase := { w.timebase with state := .stopped, frameNumber := 0, elapsed := 0 }
        events := (allPorts.map fun x => (EventKind.timebaseStopped, x)).foldl (offeredEvent w.sessions 0)
          (afterCommitApplied w) })
    ∧ (s.nextPlan ≠ [] → ∃ st count broadcasts u,
      frameOpens s.timebase.state accepted misses s.nextTiming.mode st count broadcasts
        ∧ zeroArrival { w with
            noted := Vector.replicate 4 false
            timebase := { w.timebase with state := st, missCount := count }
            events := (broadcasts.flatMap fun k => allPorts.map fun x => (k, x)).foldl
              (offeredEvent w.sessions w.timebase.frameNumber) (afterCommitApplied w) } u
        ∧ r = arbitrate u)

/-! ### How a COMMIT builds and checks its copy -/

/-- The edits applied to the copy one after another in index order, none failing, lead from `c` to `d` (05 R96). -/
def editsApplied (s : State) (p : Port) : List Edit → PlanCopy → PlanCopy → Prop
  | [], c, d => d = c
  | e :: es, c, d => ∃ m, applyEdit s p c e = .ok m ∧ editsApplied s p es m d

/-- A slot ends after its plan's limit as the last slot (05 R97). -/
def endsLate (c : PlanCopy) (x : Slot) : Prop :=
  (∃ before, c.slots = before ++ [x])
    ∧ (match c.timing.mode with | .free => c.timing.frameLength | .external => c.timing.frameLength - c.timing.window)
      < x.phase + (x.sampleTicks + x.resolution.ticks)

/-- The id names an offending slot of a copy in phase order (05 R97). -/
def offendingId (c : PlanCopy) (id : SlotId) : Prop :=
  (∃ before a b after, c.slots = before ++ a :: b :: after
      ∧ b.phase < a.phase + (a.sampleTicks + a.resolution.ticks) ∧ (id = a.id ∨ id = b.id))
    ∨ (∃ x, endsLate c x ∧ id = x.id) ∨ ∃ x ∈ c.slots, c.timing.frameLength ≤ x.phase ∧ id = x.id

/-- The edit is one of those among which the failing edit of INFEASIBLE has the lowest index (05 R97). -/
def offendingEdit (c : PlanCopy) : Edit → Prop
  | .add sl => offendingId c sl.id
  | .move id _ => offendingId c id
  | .drop _ => False
  | .timing _ => (∃ x, endsLate c x) ∨ ∃ x ∈ c.slots, c.timing.frameLength ≤ x.phase

end Sys2Proof.Machine
end

