-- ==== Sys2Proof/Certificates/Slice0/Obligations.lean ====
section
/-! DEFINITION. The statements for the provers, in the order of the manual's blocks: steps and reset, link ports, sessions,
channels, the reference, the timebase, the plans, on-demand work and the converter, the queues, the monitors, and the laws
that every step keeps. A result is stated as the whole next state where it can be written down: `answered s t p …` is the
state `t` with only port p of `s` changed, by the taking of the frame. -/

section

open Sys2Proof Sys2Proof.Machine

/-! ### Steps and reset -/

/-- One step with a command at the front of the queue is that command on the rest of the queue (the model's queue, log 1). -/
def Obligations.StepRunsFrontCommand : Prop :=
  ∀ (c : Instr) (rest : List Instr) (s : State),
    s.pending = c :: rest → step s = exec c { s with pending := rest }

/-- No command and no step stops the hub; a command takes no device tick and leaves the queue of commands alone. -/
def Obligations.NoCommandStops : Prop :=
  (∀ (c : Instr) (s : State), ∃ t, exec c s = .next t ∧ t.pending = s.pending ∧ t.clock = s.clock)
    ∧ ∀ s : State, ∃ t, step s = .next t

/-- A step with no command waiting (the model's choice, log 1 to 3). With events due, it is one of them, or the end of a
processing; with none due it is one device tick, or the end of a processing. What is due is said event by event. At a tick every
lease, every settle and Elapsed or Hunt Elapsed move by one, a count at its last value staying there with its event due (R28,
R57, R65, R74, R172; log 12); SYNC is sampled (R66), the selects are sampled (R182; log 5), which captures the status byte before
the events due at that tick (the model's choice, log 19), and where an acquisition period ends the converter takes the sample of
its channel against its recorded reference (R2, R8). -/
def Obligations.IdleTickAdvancesEveryCount : Prop :=
  (∀ s : State, s.pending = [] → s.inReset = false →
    (dueEvents s ≠ [] →
      ∃ c, (c ∈ dueEvents s ∨ ∃ p : Port, (look s.ports p).processing.isSome = true ∧ c = .replyStored p)
        ∧ step s = exec c { s with moment := s.moment + 1 })
    ∧ (dueEvents s = [] →
      step s = .next (tick s)
        ∨ ∃ p : Port, (look s.ports p).processing.isSome = true
            ∧ step s = exec (.replyStored p) { s with moment := s.moment + 1 })
    ∧ (dueEvents s = [] → (∀ p : Port, (look s.ports p).processing = none) → step s = .next (tick s)))
  ∧ (∀ s : State,
    (.conversionEnd ∈ dueEvents s ↔ ∃ c, s.inFlight = some c ∧ c.plannedEnd ≤ s.clock)
    ∧ (∀ ch, .analogSettleEnd ch ∈ dueEvents s ↔ ∃ o n, look s.channels ch = .settling o n true)
    ∧ (.referenceSettleEnd ∈ dueEvents s ↔ ∃ r n, s.reference.state = .settling r n true)
    ∧ (.frameBoundary ∈ dueEvents s ↔ running s = true ∧ s.timebase.boundaryDue = true)
    ∧ (.huntingLimit ∈ dueEvents s ↔ ∃ n, s.timebase.state = .hunting n ∧ 4 * s.activeTiming.frameLength ≤ n)
    ∧ (.phaseArrival ∈ dueEvents s
      ↔ running s = true ∧ ∃ a ∈ s.activePlan, a.slot.phase = s.timebase.elapsed ∧ a.arrived = false)
    ∧ (∀ p, .leaseFall p ∈ dueEvents s ↔ ∃ l, (look s.sessions p).state = .opened l ∧ l.fallDue = true)
    ∧ (∀ p, .leaseExpiry p ∈ dueEvents s ↔ ∃ l, (look s.sessions p).state = .opened l ∧ l.leaseRemaining = 0)
    ∧ (.syncEdge ∈ dueEvents s ↔ s.syncEdgeSampled = true)
    ∧ ∀ c ∈ dueEvents s, c = .conversionEnd ∨ (∃ ch, c = .analogSettleEnd ch) ∨ c = .referenceSettleEnd
        ∨ c = .frameBoundary ∨ c = .huntingLimit ∨ c = .phaseArrival ∨ (∃ p, c = .leaseFall p)
        ∨ (∃ p, c = .leaseExpiry p) ∨ c = .syncEdge)
  ∧ ∀ s t : State, s.inReset = false → t = tick s →
      t.clock = s.clock + 1 ∧ t.moment = s.moment + 1
      ∧ (∀ p l, (look s.sessions p).state = .opened l →
          look t.sessions p = { look s.sessions p with
            state := .opened (if l.leaseTick < 1999 then { l with leaseTick := l.leaseTick + 1 }
              else { l with fallDue := true }) })
      ∧ (∀ p, isOpen s p = false → look t.sessions p = look s.sessions p)
      ∧ (∀ ch o n due, look s.channels ch = .settling o n due →
          look t.channels ch = if 2 ≤ n then .settling o (n - 1) due else .settling o n true)
      ∧ (∀ ch, (∀ o n due, look s.channels ch ≠ .settling o n due) → look t.channels ch = look s.channels ch)
      ∧ (∀ r n due, s.reference.state = .settling r n due →
          t.reference = { s.reference with
            state := if 2 ≤ n then .settling r (n - 1) due else .settling r n true })
      ∧ (∀ r b, s.reference.state = .steady r b → t.reference = s.reference)
      ∧ (∀ n, s.timebase.state = .hunting n → t.timebase = { s.timebase with state := .hunting (n + 1) })
      ∧ (s.timebase.state = .stopped → t.timebase = s.timebase)
      ∧ (∀ frameEnd, (s.timebase.state = .freeRun ∨ s.timebase.state = .flywheel) ∧ frameEnd = s.activeTiming.frameLength
            ∨ s.timebase.state = .locked ∧ frameEnd = s.activeTiming.frameLength + s.activeTiming.window →
          t.timebase = if s.timebase.elapsed + 1 < frameEnd then { s.timebase with elapsed := s.timebase.elapsed + 1 }
            else { s.timebase with boundaryDue := true })
      ∧ t.syncEdgeSampled = (s.syncInput.headD false && s.syncSampledLow)
      ∧ t.syncSampledLow = (!s.syncInput.headD false)
      ∧ (∀ p : Port,
          (look s.selectInput p = [] → look t.ports p = look s.ports p ∧ look t.selectInput p = [])
          ∧ ∀ level later, look s.selectInput p = level :: later →
            look t.selectInput p = later
              ∧ look t.ports p = { look s.ports p with
                  select := if level = true then .high
                    else if (look s.ports p).select = .high then .low (statusByte s p) else (look s.ports p).select })
      ∧ (∀ c, s.inFlight = some c → c.samples.length < c.averaging.count →
          s.clock + 1 = c.startTick + c.samples.length * (c.sampleTicks + c.resolution.ticks) + c.sampleTicks →
          ∃ v, v = sampleCode c.resolution (channelVolts t c.reference c.channel) (refVolts t c.reference)
                (Config.freeCode t.moment)
            ∧ v < 2 ^ c.resolution.bits ∧ t.inFlight = some { c with samples := c.samples ++ [v] })
      ∧ (∀ c, s.inFlight = some c →
          (c.averaging.count ≤ c.samples.length
            ∨ s.clock + 1 ≠ c.startTick + c.samples.length * (c.sampleTicks + c.resolution.ticks) + c.sampleTicks) →
          t.inFlight = some c)
      ∧ (s.inFlight = none → t.inFlight = none)
      ∧ t = { s with
          clock := t.clock, moment := t.moment, sessions := t.sessions, channels := t.channels,
          reference := t.reference, timebase := t.timebase, inFlight := t.inFlight, syncInput := s.syncInput.tail,
          syncSampledLow := t.syncSampledLow, syncEdgeSampled := t.syncEdgeSampled, ports := t.ports,
          selectInput := t.selectInput }

/-- DEVICE_RESET puts every block at its reset values and holds the ports, SDO high impedance; RESET_END lets the hub run. A
port whose select is low at the reset, or falls during it, ignores that select until it rises: during a reset, and with an
ignored select, a transaction has no effect but the rise (R21, R48, R62, R82, R112, R126, R144, R157, R167, R180, R181). The
queue of commands, the clock and the levels of SYNC and the selects are outside the part (log 1, 5, 8, 20). -/
def Obligations.DeviceResetAndItsEnd : Prop :=
  (∀ (cause : ResetCause) (s : State), ∃ t, exec (.deviceReset cause) s = .next t
    ∧ t.inReset = true ∧ t.resetCause = cause
    ∧ (∀ p : Port, look t.sessions p = { state := .closed, previousRevoked := false }
        ∧ look t.ports p = { storedReply := none, lastFrame := none, processing := none, frameError := false,
                             overrun := false, resetSeen := true, linkErrors := 0,
                             select := if (look s.ports p).select = .high then .high else .ignored, sdo := [] }
        ∧ sdoDriven t p = false
        ∧ look t.results p = { records := [], nextSequence := 0, overflow := 0 }
        ∧ look t.events p = { records := [], lost := 0 }
        ∧ look t.requests p = [] ∧ look t.staging p = [] ∧ look t.noted p = false
        ∧ alert t p = false ∧ statusByte t p = 0x01)
    ∧ (∀ ch : Channel, look t.channels ch = .free ∧ look t.latest ch = none)
    ∧ (∀ m : MonitorId, look t.monitors m = none)
    ∧ t.reference = { state := .steady .internal false, holder := none }
    ∧ t.timebase = { state := .stopped, frameNumber := 0, elapsed := 0, boundaryDue := false, missCount := 0,
                     spuriousCount := 0, holder := none }
    ∧ t.activeTiming = { frameLength := 2000, mode := .free, window := 16 } ∧ t.nextTiming = t.activeTiming
    ∧ t.activePlan = [] ∧ t.nextPlan = [] ∧ t.activationCount = 0 ∧ t.inFlight = none ∧ t.pointer = 3
    ∧ (∀ id : SlotId, isFreeId t id = true)
    ∧ t.syncSampledLow = false ∧ t.syncEdgeSampled = false
    ∧ t.pending = s.pending ∧ t.clock = s.clock ∧ t.syncInput = s.syncInput ∧ t.selectInput = s.selectInput)
  ∧ (∀ s : State, exec .resetEnd s = .next { s with inReset := false })
  ∧ (∀ (c : Instr) (p : Port) (s : State), (s.inReset = true ∨ (look s.ports p).select = .ignored) → wellFormed c = true →
      ((∃ k q b, frameOf c = some (p, k, q, b)) ∨ (∃ l n, c = .collectTransaction p l n) ∨ (∃ b, c = .frameDiscarded p b)
        ∨ ∃ q k b, c = .retransmission p q k b) →
      exec c s = .next { s with ports := put s.ports p { look s.ports p with select := .high } })
  ∧ ∀ s : State, s.pending = [] → s.inReset = true →
      ∃ t, step s = .next t ∧ t = { s with ports := t.ports, selectInput := t.selectInput }
        ∧ ∀ p : Port,
          (look s.selectInput p = [] → look t.ports p = look s.ports p ∧ look t.selectInput p = [])
          ∧ ∀ level later, look s.selectInput p = level :: later →
            look t.selectInput p = later
              ∧ look t.ports p = { look s.ports p with
                  select := if level = true then .high
                    else if (look s.ports p).select = .high then .ignored else (look s.ports p).select }

/-! ### Link ports (chapter 11) -/

/-- Every request frame that a port takes as new sets Busy, discards the Stored Reply, replaces the Last Frame and clears
Frame Error and Overrun (R188 to R190); Reset Seen is cleared by no request but OPEN, and the other ports stay (R181). -/
def Obligations.NewRequestTaken : Prop :=
  ∀ (c : Instr) (p : Port) (code : Byte) (q : LinkSeq) (payload : List Byte) (s : State),
    frameOf c = some (p, code, q, payload) → wellFormed c = true → takesNew s p code q payload →
    ∃ t a, exec c s = .next t
      ∧ look t.ports p = { carrying s p code q payload a with resetSeen := (look t.ports p).resetSeen }
      ∧ (code ≠ 0x02 → (look t.ports p).resetSeen = (look s.ports p).resetSeen)
      ∧ otherPortsSame s t p

/-- A frame that meets Busy is discarded with Overrun, unchecked for damage; a damaged one at a port that is not Busy with
Frame Error; each is counted, saturating, and reaches no block (R188). A frame equal to the Last Frame in sequence number,
code, length and CRC is not carried out, the Stored Reply stays, and Frame Error and Overrun are cleared (R188, R189). -/
def Obligations.FramesNotCarriedOut : Prop :=
  (∀ (c : Instr) (p : Port) (code : Byte) (q : LinkSeq) (payload : List Byte) (s : State),
    ((frameOf c = some (p, code, q, payload) ∧ wellFormed c = true)
      ∨ (c = .retransmission p q code payload ∧ code ≠ collectCode)) →
    hears s p = true → (look s.ports p).processing.isSome = true →
    exec c s = .next { s with ports := put s.ports p { look s.ports p with
      select := .high
      sdo := capturedStatus s p :: List.replicate (3 + payload.length) 0x00
      overrun := true
      linkErrors := min 65535 ((look s.ports p).linkErrors + 1) } })
  ∧ (∀ (p : Port) (bytes : List Byte) (s : State),
    bytes ≠ [] → bytes.head? ≠ some collectCode → hears s p = true → (look s.ports p).processing.isSome = true →
    exec (.frameDiscarded p bytes) s = .next { s with ports := put s.ports p { look s.ports p with
      select := .high
      sdo := capturedStatus s p :: List.replicate (bytes.length - 1) 0x00
      overrun := true
      linkErrors := min 65535 ((look s.ports p).linkErrors + 1) } })
  ∧ (∀ (p : Port) (bytes : List Byte) (s : State),
    bytes ≠ [] → bytes.head? ≠ some collectCode → hears s p = true → (look s.ports p).processing = none →
    damagedBytes bytes →
    exec (.frameDiscarded p bytes) s = .next { s with ports := put s.ports p { look s.ports p with
      select := .high
      sdo := capturedStatus s p :: List.replicate (bytes.length - 1) 0x00
      frameError := true
      linkErrors := min 65535 ((look s.ports p).linkErrors + 1) } })
  ∧ ∀ (c : Instr) (p : Port) (code : Byte) (q : LinkSeq) (payload : List Byte) (s : State),
    ((frameOf c = some (p, code, q, payload) ∧ wellFormed c = true)
      ∨ (c = .retransmission p q code payload ∧ code ≠ collectCode)) →
    hears s p = true → (look s.ports p).processing = none → payload.length ≤ 16 →
    (look s.ports p).lastFrame
      = some { seq := q, code, length := payload.length, crc := crc8 (frameBody code q payload) } →
    exec c s = .next { s with ports := put s.ports p { look s.ports p with
      select := .high
      sdo := capturedStatus s p :: List.replicate (3 + payload.length) 0x00
      frameError := false
      overrun := false } }

/-- A new request whose code is none of 11.6.1 is answered UNKNOWN_REQUEST, and one of another length than 11.6.1 gives is
answered BAD_LENGTH, in every session state; neither changes any block (R190). -/
def Obligations.PortAnswersUnknownAndBadLength : Prop :=
  (∀ (p : Port) (q : LinkSeq) (code : Byte) (payload : List Byte) (s : State),
    takesNew s p code q payload → code ≠ collectCode → (∀ n, (code, n) ∉ requestLengths) →
    exec (.unknownRequest p q code payload) s
      = .next (answered s s p code q payload (.built .unknownRequest [])))
  ∧ ∀ (c : Instr) (p : Port) (code : Byte) (n : Nat) (q : LinkSeq) (payload : List Byte) (s : State),
    frameOf c = some (p, code, q, payload) → wellFormed c = true → takesNew s p code q payload →
    (code, n) ∈ requestLengths → payload.length ≠ n →
    exec c s = .next (answered s s p code q payload (.built .badLength []))

/-- A request other than IDENTIFY, STATUS and OPEN is answered REVOKED in REVOKED and NO_SESSION in CLOSED, and changes no
block (R169). -/
def Obligations.SessionStateAnswers : Prop :=
  ∀ (c : Instr) (p : Port) (code : Byte) (q : LinkSeq) (payload : List Byte) (s : State),
    frameOf c = some (p, code, q, payload) → takesNew s p code q payload →
    (code, payload.length) ∈ requestLengths → wellFormed c = true → code ≠ 0x01 → code ≠ 0x02 → code ≠ 0x05 →
    ((look s.sessions p).state = .revoked →
        exec c s = .next (answered s s p code q payload (.built .revoked [])))
      ∧ ((look s.sessions p).state = .closed →
        exec c s = .next (answered s s p code q payload (.built .noSession [])))

/-- The end of a processing builds the reply frame (status, code echo, sequence echo, length, payload, CRC-8), stores it and
clears Busy; an answer decided at the taking is stored as it was decided, a reading's payload is that of the state as it then
stands; the status codes are those of the table (R183, R186, R187, R190, R191; log 4). -/
def Obligations.ReplyStoredForCollection : Prop :=
  (∀ (s : State) (p : Port) (st : Status) (payload : List Byte), builtAnswer s p (.built st payload) = (st, payload))
  ∧ (Status.ok.code = 0x00 ∧ Status.accepted.code = 0x01 ∧ Status.noSession.code = 0x80 ∧ Status.revoked.code = 0x81
    ∧ Status.notOwner.code = 0x82 ∧ Status.inUse.code = 0x83 ∧ Status.badArgument.code = 0x84 ∧ Status.full.code = 0x85
    ∧ Status.notFound.code = 0x86 ∧ Status.infeasible.code = 0x87 ∧ Status.wrongMode.code = 0x88
    ∧ Status.unschedulable.code = 0x89 ∧ Status.tooLate.code = 0x8A ∧ Status.badRenewal.code = 0x8B
    ∧ Status.unknownRequest.code = 0x8C ∧ Status.badLength.code = 0x8D)
  ∧ ∀ (p : Port) (s : State) (pr : Processing), (look s.ports p).processing = some pr →
    ∃ t body, exec (.replyStored p) s = .next t
      ∧ body = [(builtAnswer s p pr.answer).1.code, pr.code, pr.seq.setWidth 8,
          BitVec.ofNat 8 (builtAnswer s p pr.answer).2.length] ++ (builtAnswer s p pr.answer).2
      ∧ look t.ports p = { look s.ports p with storedReply := some (body ++ [crc8 body]), processing := none }
      ∧ otherPortsSame s t p
      ∧ t = { s with ports := t.ports, moment := t.moment }

/-- A collect transaction changes nothing but the select line and what the port shifts out: the status byte of the select
fall, then the Stored Reply and 0xFF after its CRC where Reply Ready is set at the end of the first byte, else 0xFF; the
processing may end between the two (R183). -/
def Obligations.CollectReturnsStoredReply : Prop :=
  ∀ (p : Port) (count : Nat) (s : State), 0 < count → hears s p = true →
    (∀ reply, (look s.ports p).storedReply = some reply → (look s.ports p).processing = none →
      exec (.collectTransaction p false count) s = .next { s with ports := put s.ports p { look s.ports p with
        select := .high, sdo := (capturedStatus s p :: reply ++ List.replicate count 0xFF).take count } })
    ∧ ((look s.ports p).storedReply = none ∨ (look s.ports p).processing.isSome = true →
      exec (.collectTransaction p false count) s = .next { s with ports := put s.ports p { look s.ports p with
        select := .high, sdo := capturedStatus s p :: List.replicate (count - 1) 0xFF } })
    ∧ (∀ u reply, exec (.replyStored p) s = .next u → (look u.ports p).storedReply = some reply →
      exec (.collectTransaction p true count) s = .next { u with ports := put u.ports p { look u.ports p with
        select := .high, sdo := (capturedStatus s p :: reply ++ List.replicate count 0xFF).take count } })

/-- The bits of the port status byte (R185), Reply Ready (R181), at watermark (R138) and the ALERT line (R164); the status byte
of a transaction is the one captured at the select fall (R182, R185), and a transaction whose select has not been sampled low
falls and rises in one step (log 5); SDO is driven while the select is low (R181, R182). -/
def Obligations.StatusByteAndAlert : Prop :=
  ∀ (s : State) (p : Port),
    ((statusByte s p).getLsbD 7 = true
        ↔ (look s.ports p).storedReply.isSome = true ∧ (look s.ports p).processing = none)
      ∧ (statusByte s p).getLsbD 6 = alert s p
      ∧ ((statusByte s p).getLsbD 5 = true ↔ (look s.sessions p).state = .revoked)
      ∧ (statusByte s p).getLsbD 4 = isOpen s p
      ∧ (statusByte s p).getLsbD 3 = (look s.ports p).frameError
      ∧ (statusByte s p).getLsbD 2 = (look s.ports p).overrun
      ∧ (statusByte s p).getLsbD 1 = atWatermark s p
      ∧ (statusByte s p).getLsbD 0 = (look s.ports p).resetSeen
      ∧ (atWatermark s p = true
        ↔ ∃ l, (look s.sessions p).state = .opened l ∧ l.watermark ≤ (look s.results p).records.length)
      ∧ (alert s p = true
        ↔ (look s.sessions p).state = .revoked
          ∨ isOpen s p = true ∧ ((look s.events p).records ≠ [] ∨ atWatermark s p = true))
      ∧ (∀ b, (look s.ports p).select = .low b → capturedStatus s p = b)
      ∧ ((look s.ports p).select = .high → capturedStatus s p = statusByte s p)
      ∧ (sdoDriven s p = true ↔ s.inReset = false ∧ ∃ b, (look s.ports p).select = .low b)
      ∧ (hears s p = true ↔ s.inReset = false ∧ (look s.ports p).select ≠ .ignored)
      ∧ (isOpen s p = true ↔ ∃ l, (look s.sessions p).state = .opened l)

/-- A request frame is its code, its link sequence number, its length, its payload and the CRC-8 of them; the Last Frame holds
four of these (R181, R186). CRC-8: the manual's check value and its two worked frames; the register starts at 0, takes each byte
by exclusive-or and shifts eight times; after a frame's own CRC byte it is 0 (R187). -/
def Obligations.CrcOfFrames : Prop :=
  crc8 [0x31, 0x32, 0x33, 0x34, 0x35, 0x36, 0x37, 0x38, 0x39] = 0xF4
    ∧ requestFrame 0x01 0 [] = [0x01, 0x00, 0x00, 0x6B]
    ∧ requestFrame 0x04 3 [0x00, 0x02] = [0x04, 0x03, 0x02, 0x00, 0x02, 0x6D]
    ∧ (∀ bytes : List Byte, crc8 (bytes ++ [crc8 bytes]) = 0)
    ∧ crc8 [] = 0
    ∧ (∀ (bytes : List Byte) (b : Byte), crc8 (bytes ++ [b]) = crc8 [crc8 bytes ^^^ b])
    ∧ (∀ b : Byte, crc8 [b] = (List.range 8).foldl (fun r _ => if r.msb then (r <<< 1) ^^^ 0x07 else r <<< 1) b)
    ∧ ∀ (code : Byte) (q : LinkSeq) (payload : List Byte),
      frameBody code q payload = [code, q.setWidth 8, BitVec.ofNat 8 payload.length] ++ payload
        ∧ requestFrame code q payload = frameBody code q payload ++ [crc8 (frameBody code q payload)]
        ∧ lastFrameOf code q payload
          = { seq := q, code, length := payload.length, crc := crc8 (frameBody code q payload) }

/-- The bits of a well-formed command's request frame, clocked in a transaction, make that command again, whatever bits of an
incomplete byte follow: no bit of the code, the link sequence number or the payload is lost. Fewer than eight bits make no
command, and a first byte of 0xF0 makes a collect transaction; bytes travel most significant bit first (R182, R184, R186 to
R188, R190). -/
def Obligations.TransactionBytesGiveCommand : Prop :=
  collectCode = 0xF0
  ∧ (∀ b : Byte, byteBits b = [b.getLsbD 7, b.getLsbD 6, b.getLsbD 5, b.getLsbD 4, b.getLsbD 3, b.getLsbD 2, b.getLsbD 1,
      b.getLsbD 0])
  ∧ (∀ (c : Instr) (p : Port) (code : Byte) (q : LinkSeq) (payload : List Byte) (tail : List Bool),
    frameOf c = some (p, code, q, payload) → wellFormed c = true → tail.length < 8 →
    transactionCommand p (requestFrame code q payload) = some c
      ∧ transactionOfBits p ((requestFrame code q payload).flatMap byteBits ++ tail) = some c)
  ∧ (∀ (p : Port) (bits : List Bool), bits.length < 8 → transactionOfBits p bits = none)
  ∧ ∀ (p : Port) (bytes : List Byte) (tail : List Bool), tail.length < 8 →
    wholeBytes (bytes.flatMap byteBits ++ tail) = bytes
      ∧ transactionOfBits p ((collectCode :: bytes).flatMap byteBits ++ tail)
        = some (.collectTransaction p false (bytes.length + 1))

/-! ### Sessions (chapter 10) -/

/-- IDENTIFY is carried out in every session state, answers the fixed fields and the reset cause, and changes nothing
(R179). -/
def Obligations.IdentifyReply : Prop :=
  ∀ (p : Port) (q : LinkSeq) (s : State), takesNew s p 0x01 q [] →
    exec (.identify p q []) s = .next (answered s s p 0x01 q [] (.built .ok
      [0x53, 0xA1, 0x01, byte p.val, (match s.resetCause with | .powerOn => 0 | .resetPin => 1), 4, 14, 24, 8, 8, 32, 16, 8]))

/-- OPEN is refused IN_USE in OPEN, whatever its arguments, and BAD_ARGUMENT on an argument outside its range; a refused OPEN
changes no session record and leaves RESET_SEEN (R170). -/
def Obligations.OpenRefused : Prop :=
  ∀ (p : Port) (q : LinkSeq) (hi lo policy mark : Byte) (s : State), takesNew s p 0x02 q [hi, lo, policy, mark] →
    (isOpen s p = true →
      exec (.openSession p q [hi, lo, policy, mark]) s
        = .next (answered s s p 0x02 q [hi, lo, policy, mark] (.built .inUse [])))
    ∧ (isOpen s p = false →
      (be16 hi lo < 5 ∨ 5000 < be16 hi lo ∨ 1 < policy.toNat ∨ mark.toNat < 1 ∨ 32 < mark.toNat) →
      exec (.openSession p q [hi, lo, policy, mark]) s
        = .next (answered s s p 0x02 q [hi, lo, policy, mark] (.built .badArgument [])))

/-- OPEN with its arguments in range fills the session record, clears the port's RESET_SEEN and begins with empty queues and
an empty staging area; nothing else changes (R171). A two-byte argument has its most significant byte first (R186). -/
def Obligations.OpenBeginsSession : Prop :=
  (∀ hi lo : Byte, be16 hi lo = hi.toNat * 256 + lo.toNat)
  ∧ ∀ (p : Port) (q : LinkSeq) (hi lo policy mark : Byte) (s : State), takesNew s p 0x02 q [hi, lo, policy, mark] →
    isOpen s p = false → 5 ≤ be16 hi lo → be16 hi lo ≤ 5000 → policy.toNat ≤ 1 → 1 ≤ mark.toNat → mark.toNat ≤ 32 →
    exec (.openSession p q [hi, lo, policy, mark]) s = .next { s with
      ports := put s.ports p { carrying s p 0x02 q [hi, lo, policy, mark] (.built .ok
          ([0, 1, (match s.resetCause with | .powerOn => 0 | .resetPin => 1),
            if (look s.sessions p).state = .revoked then 1 else 0] ++ half (be16 hi lo) ++ [byte p.val])) with
        resetSeen := false }
      sessions := put s.sessions p {
        state := .opened {
          leaseLength := be16 hi lo, leaseRemaining := be16 hi lo, leaseTick := 0, fallDue := false, warningSent := false,
          expectedRenewal := 1, policy := if policy = 0 then .dropNewest else .overwriteOldest,
          watermark := mark.toNat }
        previousRevoked := decide ((look s.sessions p).state = .revoked) }
      results := put s.results p { records := [], nextSequence := 0, overflow := 0 }
      events := put s.events p { records := [], lost := 0 }
      requests := put s.requests p []
      staging := put s.staging p [] }

/-- CLOSE makes the session CLOSED and tears down what it held: its records, channels, subscriptions, slots, monitors and roles,
its users with CANCELLED records and CHANNEL_LOST, and the conversion in flight marked; then the arbiter decides where that is
a decision event (endIsDecision; its headLeft as ArbiterDecision says). The reply counts the records discarded, and ALERT is low
(R11 to R13, R22, R47, R56, R61, R176, R177; log 10, 11, 16). -/
def Obligations.CloseEndsSession : Prop :=
  ∀ (p : Port) (q : LinkSeq) (s : State), takesNew s p 0x03 q [] → isOpen s p = true → subscribersLawful s →
    ∃ w, sessionEnded .closed s w p
      ∧ (endIsDecision s w p →
        exec (.closeSession p q []) s = .next (answered s (arbitrate w) p 0x03 q [] (.built .ok
          [byte (look s.results p).records.length, byte (look s.events p).records.length])))
      ∧ (¬endIsDecision s w p →
        exec (.closeSession p q []) s = .next (answered s w p 0x03 q [] (.built .ok
          [byte (look s.results p).records.length, byte (look s.events p).records.length])))
      ∧ ∀ t, exec (.closeSession p q []) s = .next t → holdsNothing t p ∧ alert t p = false

/-- RENEW with the Expected Renewal refills the lease and raises the number; with another number it is refused BAD_RENEWAL
with the number expected, and changes nothing (R174). -/
def Obligations.RenewRefillsLease : Prop :=
  ∀ (p : Port) (q : LinkSeq) (hi lo : Byte) (s : State) (l : Lease), takesNew s p 0x04 q [hi, lo] →
    (look s.sessions p).state = .opened l →
    (be16 hi lo = l.expectedRenewal.toNat →
      exec (.renew p q [hi, lo]) s = .next (answered s
        { s with sessions := put s.sessions p { look s.sessions p with
          state := .opened { l with leaseRemaining := l.leaseLength, leaseTick := 0, fallDue := false, warningSent := false,
                                    expectedRenewal := l.expectedRenewal + 1 } } }
        p 0x04 q [hi, lo] (.built .ok (half (l.expectedRenewal + 1).toNat ++ half l.leaseLength))))
    ∧ (be16 hi lo ≠ l.expectedRenewal.toNat →
      exec (.renew p q [hi, lo]) s
        = .next (answered s s p 0x04 q [hi, lo] (.built .badRenewal (half l.expectedRenewal.toNat))))

/-- STATUS in every session state, and the other readings in OPEN, change nothing but the port; an argument outside its range
is refused BAD_ARGUMENT. PEEK_LATEST and MONITOR_READ answer with the entry and the record of the taking; the others are made
when the reply is built (R46, R59, R80, R111, R129, R142, R150, R178; log 4). -/
def Obligations.ReadingsChangeNothing : Prop :=
  (∀ (p : Port) (q : LinkSeq) (s : State), takesNew s p 0x05 q [] →
    exec (.status p q []) s = .next (answered s s p 0x05 q [] (.reading .status)))
  ∧ (∀ (p : Port) (q : LinkSeq) (s : State), isOpen s p = true →
    (takesNew s p 0x23 q [] →
      exec (.referenceRead p q []) s = .next (answered s s p 0x23 q [] (.reading .reference)))
    ∧ (takesNew s p 0x2A q [] →
      exec (.timebaseRead p q []) s = .next (answered s s p 0x2A q [] (.reading .timebase))))
  ∧ ∀ (p : Port) (q : LinkSeq) (b : Byte) (s : State), isOpen s p = true →
    (takesNew s p 0x17 q [b] → ∀ ch : Channel, b.toNat = ch.val →
      exec (.channelInfo p q [b]) s = .next (answered s s p 0x17 q [b] (.reading (.channel ch))))
    ∧ (takesNew s p 0x17 q [b] → 14 ≤ b.toNat →
      exec (.channelInfo p q [b]) s = .next (answered s s p 0x17 q [b] (.built .badArgument [])))
    ∧ (takesNew s p 0x49 q [b] → ∀ ch : Channel, b.toNat = ch.val →
      exec (.peekLatest p q [b]) s = .next (answered s s p 0x49 q [b] (.built .ok (latestPayload s ch))))
    ∧ (takesNew s p 0x49 q [b] → 14 ≤ b.toNat →
      exec (.peekLatest p q [b]) s = .next (answered s s p 0x49 q [b] (.built .badArgument [])))
    ∧ (takesNew s p 0x36 q [b] → b.toNat ≤ 23 →
      exec (.planRead p q [b]) s = .next (answered s s p 0x36 q [b] (.reading (.plan b.toNat))))
    ∧ (takesNew s p 0x36 q [b] → 24 ≤ b.toNat →
      exec (.planRead p q [b]) s = .next (answered s s p 0x36 q [b] (.built .badArgument [])))
    ∧ (takesNew s p 0x52 q [b] → ∀ m : MonitorId, b.toNat = m.val →
      exec (.monitorRead p q [b]) s = .next (answered s s p 0x52 q [b] (.built .ok (monitorPayload s m))))
    ∧ (takesNew s p 0x52 q [b] → 8 ≤ b.toNat →
      exec (.monitorRead p q [b]) s = .next (answered s s p 0x52 q [b] (.built .badArgument [])))

/-- The replies of STATUS, CHANNEL_INFO, PIN_READ, REFERENCE_READ, TIMEBASE_READ, PEEK_LATEST, MONITOR_READ and PLAN_READ,
field by field in the order of 11.6.1, with the slot descriptor of 11.6.4 and the codes of 11.6.5, by the state they report, for
every state of the record (R45, R46, R59, R80, R111, R142, R150, R178, R193). -/
def Obligations.ReadingRepliesBuilt : Prop :=
  (∀ n : Nat, byte n = BitVec.ofNat 8 n ∧ half n = [BitVec.ofNat 8 (n / 256), BitVec.ofNat 8 n]
    ∧ three n = [BitVec.ofNat 8 (n / 65536), BitVec.ofNat 8 (n / 256), BitVec.ofNat 8 n])
  ∧ flag true = 1 ∧ flag false = 0
  ∧ ∀ (s : State) (p : Port),
    (∀ l, (look s.sessions p).state = .opened l →
      builtAnswer s p (.reading .status) = (.ok,
        [1, flag (look s.sessions p).previousRevoked] ++ half l.leaseLength ++ half l.leaseRemaining
          ++ [flag l.warningSent] ++ half l.expectedRenewal.toNat
          ++ [(match l.policy with | .dropNewest => 0 | .overwriteOldest => 1), byte l.watermark,
            byte (look s.staging p).length, byte (look s.requests p).length, byte (look s.results p).records.length,
            byte (look s.events p).records.length]
          ++ half (look s.results p).overflow ++ [byte (look s.events p).lost] ++ half (look s.ports p).linkErrors))
    ∧ ((look s.sessions p).state = .closed →
      builtAnswer s p (.reading .status) = (.ok,
        [0, flag (look s.sessions p).previousRevoked] ++ List.replicate 16 0 ++ half (look s.ports p).linkErrors))
    ∧ ((look s.sessions p).state = .revoked →
      builtAnswer s p (.reading .status) = (.ok,
        [2, flag (look s.sessions p).previousRevoked] ++ List.replicate 16 0 ++ half (look s.ports p).linkErrors))
    ∧ (∀ (ch : Channel) (use : Byte),
      use = (if (∃ sl ∈ s.nextPlan, sl.channel = ch) ∨ ∃ a ∈ s.activePlan, a.void = false ∧ a.slot.channel = ch
        then 1 else 0) →
      (look s.channels ch = .free →
        builtAnswer s p (.reading (.channel ch)) = (.ok, [byte ch.val, 0, 0, 0, 0, 0, 0, 0, 0, 0, 0, use]))
      ∧ (∀ o d, look s.channels ch = .digital o d →
        builtAnswer s p (.reading (.channel ch))
          = (.ok, [byte ch.val, 1, byte o.val, 0, (match d.direction with | .input => 0 | .output => 1), flag d.pullUp,
              flag d.outputLevel, 0, 0, 0, 0, use]))
      ∧ (∀ o n due, look s.channels ch = .settling o n due →
        builtAnswer s p (.reading (.channel ch)) = (.ok, [byte ch.val, 2, byte o.val, byte n, 0, 0, 0, 0, 0, 0, 0, use]))
      ∧ (∀ o subs, look s.channels ch = .analog o subs →
        builtAnswer s p (.reading (.channel ch))
          = (.ok, [byte ch.val, 3, byte o.val, 0, 0, 0, 0, byte subs.length] ++ (subs.map (fun x => byte x.val)).take 3
              ++ List.replicate (3 - subs.length) 0 ++ [use]))
      ∧ (look s.channels ch = .reference →
        builtAnswer s p (.reading (.channel ch)) = (.ok, [byte ch.val, 4, 0, 0, 0, 0, 0, 0, 0, 0, 0, use])))
    ∧ (∀ (ch : Channel) o (d : DigitalPart) (k : Fin 12), look s.channels ch = .digital o d → ch.val = k.val →
      builtAnswer s p (.reading (.pin ch))
        = (.ok, [flag (pinLevel s k), (match d.direction with | .input => 0 | .output => 1), flag d.pullUp,
            flag d.outputLevel]))
    ∧ (∀ holder : List Byte, holder = (match s.reference.holder with | some h => [1, byte h.val] | none => [0, 0]) →
      (s.reference.state = .steady .internal false →
        builtAnswer s p (.reading .reference) = (.ok, [0, 0, 0, 0, 0] ++ holder ++ [0]))
      ∧ (s.reference.state = .steady .internal true →
        builtAnswer s p (.reading .reference) = (.ok, [0, 1, 1, 0, 0] ++ holder ++ [2]))
      ∧ (s.reference.state = .steady .external false →
        builtAnswer s p (.reading .reference) = (.ok, [2, 0, 0, 0, 0] ++ holder ++ [1]))
      ∧ (s.reference.state = .steady .external true →
        builtAnswer s p (.reading .reference) = (.ok, [2, 1, 0, 0, 0] ++ holder ++ [2]))
      ∧ (∀ n due, s.reference.state = .settling .external n due →
        builtAnswer s p (.reading .reference) = (.ok, [1, 0, 1] ++ half n ++ holder ++ [2]))
      ∧ (∀ n due, s.reference.state = .settling .internal n due →
        builtAnswer s p (.reading .reference) = (.ok, [3, 0, 0] ++ half n ++ holder ++ [2])))
    ∧ (∀ (code : Byte) (hunt : Nat),
      (s.timebase.state = .stopped ∧ code = 0 ∧ hunt = 0) ∨ (s.timebase.state = .hunting hunt ∧ code = 1)
        ∨ (s.timebase.state = .freeRun ∧ code = 2 ∧ hunt = 0) ∨ (s.timebase.state = .locked ∧ code = 3 ∧ hunt = 0)
        ∨ (s.timebase.state = .flywheel ∧ code = 4 ∧ hunt = 0) →
      builtAnswer s p (.reading .timebase)
        = (.ok, [code] ++ half s.timebase.frameNumber.toNat ++ three s.timebase.elapsed ++ three hunt
            ++ half s.activeTiming.frameLength ++ [(match s.activeTiming.mode with | .free => (0 : Byte) | .external => 1)]
            ++ half s.activeTiming.window
            ++ half s.nextTiming.frameLength ++ [(match s.nextTiming.mode with | .free => (0 : Byte) | .external => 1)]
            ++ half s.nextTiming.window ++ [byte s.timebase.missCount] ++ half s.timebase.spuriousCount
            ++ (match s.timebase.holder with | some h => [(1 : Byte), byte h.val] | none => [0, 0])))
    ∧ (∀ ch v, look s.latest ch = some v →
      latestPayload s ch
        = [byte ch.val, 1] ++ half v.value
            ++ [(match v.resolution with | .bits8 => (8 : Byte) | .bits10 => 10 | .bits12 => 12),
              (match v.reference with | .internal => 0 | .external => 1)] ++ half v.frame.toNat
            ++ [(match v.source with | .slot _ => 0 | .request _ => 1),
              (match v.source with | .slot id => byte id.val | .request tag => tag), byte v.session.val])
    ∧ (∀ ch, look s.latest ch = none → latestPayload s ch = byte ch.val :: List.replicate 10 0)
    ∧ (∀ m r, look s.monitors m = some r →
      monitorPayload s m
        = [byte m.val, 1, byte r.owner.val, byte r.slot.val] ++ half r.lowLimit ++ half r.highLimit
            ++ [byte r.filterCount, (match r.zone with | .unknown => 0 | .below => 1 | .inside => 2 | .above => 3),
              (match r.candidate with
                | some .below => 1 | some .inside => 2 | some .above => 3 | some .unknown => 0 | none => 0),
              byte r.runCount])
    ∧ (∀ m, look s.monitors m = none → monitorPayload s m = byte m.val :: List.replicate 11 0)
    ∧ (∀ start, builtAnswer s p (.reading (.plan start))
        = (.ok, half s.activationCount.toNat ++ half s.timebase.frameNumber.toNat
            ++ [byte s.activePlan.length, byte (min 4 (s.activePlan.length - start))]
            ++ ((s.activePlan.drop start).take 4).flatMap (descriptor s)))
    ∧ ∀ a : ActiveSlot, ∃ monitor flags : Byte,
      descriptor s a
        = [byte a.slot.id.val, byte a.slot.owner.val, byte a.slot.channel.val] ++ half a.slot.phase
          ++ [byte a.slot.sampleTicks, (match a.slot.resolution with | .bits8 => 8 | .bits10 => 10 | .bits12 => 12),
            byte a.slot.decimation, byte a.slot.frameOffset, monitor, flags,
            (match a.progress with | .idle => 0 | .pending => 1 | .inFlight => 2 | .done => 3),
            (match a.lateness with | some n => byte n | none => 0)]
      ∧ ((∀ m r, look s.monitors m = some r → r.slot ≠ a.slot.id) → monitor = 0 ∧ flags.getLsbD 0 = false)
      ∧ (∀ m r, look s.monitors m = some r → r.slot = a.slot.id →
        (∀ n : MonitorId, ∀ k, n < m → look s.monitors n = some k → k.slot ≠ a.slot.id) →
        monitor = byte m.val ∧ flags.getLsbD 0 = true)
      ∧ flags.getLsbD 1 = a.void ∧ flags.getLsbD 2 = a.lateness.isSome ∧ flags.getLsbD 3 = a.missed
      ∧ (flags.getLsbD 4 = true ↔ ∃ x ∈ s.nextPlan, x.id = a.slot.id)
      ∧ (flags.getLsbD 5 = true
        ↔ ∃ x, s.nextPlan.find? (fun y => y.id == a.slot.id) = some x ∧ x.phase ≠ a.slot.phase)
      ∧ flags.getLsbD 6 = false ∧ flags.getLsbD 7 = false

/-- LEASE_FALL, at the tick at which the Lease Tick would reach 2,000 (log 12): the Lease Remaining falls by one, and the fall
that reaches a quarter of the lease offers LEASE_WARNING once (R172, R173). -/
def Obligations.LeaseFallAndWarning : Prop :=
  ∀ (p : Port) (s : State) (l : Lease), (look s.sessions p).state = .opened l → l.fallDue = true →
    (l.warningSent = false → 4 * (l.leaseRemaining - 1) ≤ l.leaseLength →
      exec (.leaseFall p) s = .next { s with
        sessions := put s.sessions p { look s.sessions p with
          state := .opened { l with leaseRemaining := l.leaseRemaining - 1, leaseTick := 0, fallDue := false,
                                    warningSent := true } }
        events := put s.events p (enqueueEvent
          { kind := .leaseWarning (l.leaseRemaining - 1), frame := s.timebase.frameNumber } (look s.events p)) })
    ∧ ((l.warningSent = true ∨ l.leaseLength < 4 * (l.leaseRemaining - 1)) →
      exec (.leaseFall p) s = .next { s with
        sessions := put s.sessions p { look s.sessions p with
          state := .opened { l with leaseRemaining := l.leaseRemaining - 1, leaseTick := 0, fallDue := false } } })

/-- LEASE_EXPIRY, at Lease Remaining 0: the session becomes REVOKED, Previous Revoked kept, with everything it held torn down as
at CLOSE; then the arbiter decides where that is a decision event; ALERT is asserted (R11 to R13, R22, R47, R56, R61, R175,
R177; log 10, 11, 16). -/
def Obligations.LeaseExpiryRevokes : Prop :=
  ∀ (p : Port) (s : State) (l : Lease), (look s.sessions p).state = .opened l → l.leaseRemaining = 0 →
    subscribersLawful s →
    ∃ w, sessionEnded .revoked s w p
      ∧ (endIsDecision s w p → exec (.leaseExpiry p) s = .next (arbitrate w))
      ∧ (¬endIsDecision s w p → exec (.leaseExpiry p) s = .next w)
      ∧ ∀ t, exec (.leaseExpiry p) s = .next t → holdsNothing t p ∧ alert t p = true

/-! ### Channels (chapter 02) -/

/-- CLAIM for ANALOG: SETTLING with 240 ticks from FREE or from the requester's DIGITAL, ANALOG at once for channels 12 and
13, no change of the requester's ANALOG; IN_USE and BAD_ARGUMENT as the table gives (R26, R32, R33). Only a DIGITAL, SETTLING
or ANALOG channel has an owner, and the owner of an ANALOG one holds it in ANALOG (R23, R86). -/
def Obligations.ClaimForAnalog : Prop :=
  (ChannelRec.free.owner = none ∧ ChannelRec.reference.owner = none
    ∧ ∀ o : Port, (∀ d, (ChannelRec.digital o d).owner = some o) ∧ (∀ n due, (ChannelRec.settling o n due).owner = some o)
      ∧ ∀ subs, (ChannelRec.analog o subs).owner = some o)
  ∧ (∀ (s : State) (p : Port) (ch : Channel), holdsAnalog s p ch = true ↔ ∃ subs, look s.channels ch = .analog p subs)
  ∧ ∀ (p : Port) (q : LinkSeq) (c m : Byte) (s : State), takesNew s p 0x10 q [c, m] → isOpen s p = true →
    (14 ≤ c.toNat ∨ 1 < m.toNat →
      exec (.claim p q [c, m]) s = .next (answered s s p 0x10 q [c, m] (.built .badArgument [])))
    ∧ ∀ ch : Channel, c.toNat = ch.val → m = 0 →
      (look s.channels ch = .free → ch.val < 12 →
        exec (.claim p q [c, m]) s = .next (answered s { s with channels := put s.channels ch (.settling p 240 false) }
          p 0x10 q [c, m] (.built .accepted [2])))
      ∧ (look s.channels ch = .free → 12 ≤ ch.val →
        exec (.claim p q [c, m]) s = .next (answered s { s with channels := put s.channels ch (.analog p []) }
          p 0x10 q [c, m] (.built .ok [3])))
      ∧ (∀ d, look s.channels ch = .digital p d →
        exec (.claim p q [c, m]) s = .next (answered s { s with channels := put s.channels ch (.settling p 240 false) }
          p 0x10 q [c, m] (.built .accepted [2])))
      ∧ (∀ subs, look s.channels ch = .analog p subs →
        exec (.claim p q [c, m]) s = .next (answered s s p 0x10 q [c, m] (.built .ok [3])))
      ∧ ((look s.channels ch = .reference ∨ (∃ n due, look s.channels ch = .settling p n due)
          ∨ ∃ o, (look s.channels ch).owner = some o ∧ o ≠ p) →
        exec (.claim p q [c, m]) s = .next (answered s s p 0x10 q [c, m] (.built .inUse [])))

/-- CLAIM for DIGITAL: a fresh digital part from FREE, no change of the requester's DIGITAL, the mode change of the
requester's ANALOG with its users withdrawn; IN_USE and BAD_ARGUMENT as the table gives (R32, R34, R35). -/
def Obligations.ClaimForDigital : Prop :=
  ∀ (p : Port) (q : LinkSeq) (c : Byte) (s : State) (ch : Channel), takesNew s p 0x10 q [c, 1] → isOpen s p = true →
    c.toNat = ch.val →
    (12 ≤ ch.val → exec (.claim p q [c, 1]) s = .next (answered s s p 0x10 q [c, 1] (.built .badArgument [])))
    ∧ (ch.val < 12 →
      (look s.channels ch = .free →
        exec (.claim p q [c, 1]) s = .next (answered s
          { s with channels := put s.channels ch <|
                    .digital p { direction := .input, pullUp := false, outputLevel := false } }
          p 0x10 q [c, 1] (.built .ok [1])))
      ∧ (∀ d, look s.channels ch = .digital p d →
        exec (.claim p q [c, 1]) s = .next (answered s s p 0x10 q [c, 1] (.built .ok [1])))
      ∧ ((look s.channels ch = .reference ∨ (∃ n due, look s.channels ch = .settling p n due)
          ∨ ∃ o, (look s.channels ch).owner = some o ∧ o ≠ p) →
        exec (.claim p q [c, 1]) s = .next (answered s s p 0x10 q [c, 1] (.built .inUse [])))
      ∧ ∀ subs, look s.channels ch = .analog p subs → subs.Nodup → p ∉ subs →
        (((∃ sl ∈ s.nextPlan, sl.channel = ch) ∨ ∃ a ∈ s.activePlan, a.void = false ∧ a.slot.channel = ch) →
          exec (.claim p q [c, 1]) s = .next (answered s s p 0x10 q [c, 1] (.built .inUse [])))
        ∧ (¬((∃ sl ∈ s.nextPlan, sl.channel = ch) ∨ ∃ a ∈ s.activePlan, a.void = false ∧ a.slot.channel = ch) →
          ∃ w, usersWithdrawn s w ch .modeChange p subs
            ∧ w = { s with
                requests := w.requests, results := w.results, events := w.events
                channels := put s.channels ch
                  (.digital p { direction := .input, pullUp := false, outputLevel := false }) }
            ∧ exec (.claim p q [c, 1]) s = .next (answered s
                (if headLeft s.requests w.requests = true then arbitrate w else w)
                p 0x10 q [c, 1] (.built .ok [1]))))

/-- RELEASE makes the channel FREE and its latest value invalid, withdrawing the users of an ANALOG channel; NOT_OWNER, IN_USE
while the plan check holds, and BAD_ARGUMENT as the table gives (R30, R37, R38). One decision of the arbiter, after all
removals, where a head left its queue: the model's choice (log 10). -/
def Obligations.ReleaseFreesChannel : Prop :=
  ∀ (p : Port) (q : LinkSeq) (c : Byte) (s : State), takesNew s p 0x11 q [c] → isOpen s p = true →
    (14 ≤ c.toNat → exec (.release p q [c]) s = .next (answered s s p 0x11 q [c] (.built .badArgument [])))
    ∧ ∀ ch : Channel, c.toNat = ch.val →
      ((look s.channels ch).owner ≠ some p →
        exec (.release p q [c]) s = .next (answered s s p 0x11 q [c] (.built .notOwner [])))
      ∧ ((look s.channels ch).owner = some p →
        ((∃ sl ∈ s.nextPlan, sl.channel = ch) ∨ ∃ a ∈ s.activePlan, a.void = false ∧ a.slot.channel = ch) →
        exec (.release p q [c]) s = .next (answered s s p 0x11 q [c] (.built .inUse [])))
      ∧ (¬((∃ sl ∈ s.nextPlan, sl.channel = ch) ∨ ∃ a ∈ s.activePlan, a.void = false ∧ a.slot.channel = ch) →
        (∀ n due, look s.channels ch = .settling p n due →
          exec (.release p q [c]) s = .next (answered s
            { s with channels := put s.channels ch .free, latest := put s.latest ch none }
            p 0x11 q [c] (.built .ok [1, 0, 0])))
        ∧ (∀ d, look s.channels ch = .digital p d →
          exec (.release p q [c]) s = .next (answered s
            { s with channels := put s.channels ch .free, latest := put s.latest ch none }
            p 0x11 q [c] (.built .ok [0, 0, 0])))
        ∧ ∀ subs, look s.channels ch = .analog p subs → subs.Nodup → p ∉ subs →
          ∃ w, usersWithdrawn s w ch .released p subs
            ∧ w = { s with
                requests := w.requests, results := w.results, events := w.events
                channels := put s.channels ch .free, latest := put s.latest ch none }
            ∧ exec (.release p q [c]) s = .next (answered s
                (if headLeft s.requests w.requests = true then arbitrate w else w) p 0x11 q [c]
                (.built .ok [0,
                  byte ((p :: subs).map fun x => ((look s.requests x).filter fun e => e.channel == ch).length).sum,
                  byte subs.length])))

/-- SUBSCRIBE appends the session to the list of an ANALOG channel and answers its position; refused as the table gives
(R40). -/
def Obligations.SubscribeJoinsList : Prop :=
  ∀ (p : Port) (q : LinkSeq) (c : Byte) (s : State), takesNew s p 0x12 q [c] → isOpen s p = true →
    (14 ≤ c.toNat → exec (.subscribe p q [c]) s = .next (answered s s p 0x12 q [c] (.built .badArgument [])))
    ∧ ∀ ch : Channel, c.toNat = ch.val →
      ((∀ o subs, look s.channels ch ≠ .analog o subs) →
        exec (.subscribe p q [c]) s = .next (answered s s p 0x12 q [c] (.built .wrongMode [])))
      ∧ ∀ o subs, look s.channels ch = .analog o subs →
        (o = p ∨ p ∈ subs →
          exec (.subscribe p q [c]) s = .next (answered s s p 0x12 q [c] (.built .badArgument [])))
        ∧ (o ≠ p → p ∉ subs → 3 ≤ subs.length →
          exec (.subscribe p q [c]) s = .next (answered s s p 0x12 q [c] (.built .full [])))
        ∧ (o ≠ p → p ∉ subs → subs.length < 3 →
          exec (.subscribe p q [c]) s = .next (answered s
            { s with channels := put s.channels ch (.analog o (subs ++ [p])) }
            p 0x12 q [c] (.built .ok [byte (subs.length + 1)])))

/-- UNSUBSCRIBE takes the session out of the list and its entries on the channel out of its queue, each with a CANCELLED
record; the arbiter decides where the head left; NOT_FOUND where the session is not listed (R15, R41). One
decision, after all removals: the model's choice (log 10). A channel has subscribers only in ANALOG (R24). -/
def Obligations.UnsubscribeLeavesList : Prop :=
  ((∀ o subs, (ChannelRec.analog o subs).subscribers = subs)
    ∧ ∀ c : ChannelRec, (∀ o subs, c ≠ .analog o subs) → c.subscribers = [])
  ∧ ∀ (p : Port) (q : LinkSeq) (c : Byte) (s : State), takesNew s p 0x13 q [c] → isOpen s p = true →
    (14 ≤ c.toNat → exec (.unsubscribe p q [c]) s = .next (answered s s p 0x13 q [c] (.built .badArgument [])))
    ∧ ∀ ch : Channel, c.toNat = ch.val →
      (p ∉ (look s.channels ch).subscribers →
        exec (.unsubscribe p q [c]) s = .next (answered s s p 0x13 q [c] (.built .notFound [])))
      ∧ ∀ o subs, look s.channels ch = .analog o subs → p ∈ subs →
        ∃ w, w = { s with
            channels := put s.channels ch (.analog o (subs.filter fun x => x != p))
            requests := put s.requests p ((look s.requests p).filter fun e => e.channel != ch)
            results := put s.results p (afterCancelled s p ((look s.requests p).filter fun e => e.channel == ch)) }
          ∧ exec (.unsubscribe p q [c]) s = .next (answered s
              (if headLeft s.requests w.requests = true then arbitrate w else w) p 0x13 q [c]
              (.built .ok [byte ((look s.requests p).filter fun e => e.channel == ch).length]))

/-- PIN_SETUP and PIN_DRIVE set the fields of the requester's digital part, PIN_READ reads it; WRONG_MODE on a channel not
DIGITAL, NOT_OWNER on another session's, WRONG_MODE for a drive of an input, BAD_ARGUMENT (R43, R44, R45). -/
def Obligations.PinRequests : Prop :=
  ∀ (p : Port) (q : LinkSeq) (c x y : Byte) (s : State), isOpen s p = true →
    (takesNew s p 0x14 q [c, x, y] → 14 ≤ c.toNat ∨ 1 < x.toNat ∨ 1 < y.toNat →
      exec (.pinSetup p q [c, x, y]) s = .next (answered s s p 0x14 q [c, x, y] (.built .badArgument [])))
    ∧ (takesNew s p 0x15 q [c, x] → 14 ≤ c.toNat ∨ 1 < x.toNat →
      exec (.pinDrive p q [c, x]) s = .next (answered s s p 0x15 q [c, x] (.built .badArgument [])))
    ∧ (takesNew s p 0x16 q [c] → 14 ≤ c.toNat →
      exec (.pinRead p q [c]) s = .next (answered s s p 0x16 q [c] (.built .badArgument [])))
    ∧ ∀ ch : Channel, c.toNat = ch.val → x.toNat ≤ 1 → y.toNat ≤ 1 →
      ((∀ o d, look s.channels ch ≠ .digital o d) →
        (takesNew s p 0x14 q [c, x, y] →
          exec (.pinSetup p q [c, x, y]) s = .next (answered s s p 0x14 q [c, x, y] (.built .wrongMode [])))
        ∧ (takesNew s p 0x15 q [c, x] →
          exec (.pinDrive p q [c, x]) s = .next (answered s s p 0x15 q [c, x] (.built .wrongMode [])))
        ∧ (takesNew s p 0x16 q [c] →
          exec (.pinRead p q [c]) s = .next (answered s s p 0x16 q [c] (.built .wrongMode []))))
      ∧ (∀ o d, look s.channels ch = .digital o d → o ≠ p →
        (takesNew s p 0x14 q [c, x, y] →
          exec (.pinSetup p q [c, x, y]) s = .next (answered s s p 0x14 q [c, x, y] (.built .notOwner [])))
        ∧ (takesNew s p 0x15 q [c, x] →
          exec (.pinDrive p q [c, x]) s = .next (answered s s p 0x15 q [c, x] (.built .notOwner [])))
        ∧ (takesNew s p 0x16 q [c] →
          exec (.pinRead p q [c]) s = .next (answered s s p 0x16 q [c] (.built .notOwner []))))
      ∧ ∀ d, look s.channels ch = .digital p d →
        (takesNew s p 0x14 q [c, x, y] →
          exec (.pinSetup p q [c, x, y]) s = .next (answered s
            { s with channels := put s.channels ch (.digital p { d with
                direction := if x = 0 then .input else .output, pullUp := decide (y = 1) }) }
            p 0x14 q [c, x, y] (.built .ok [])))
        ∧ (takesNew s p 0x15 q [c, x] → d.direction = .output →
          exec (.pinDrive p q [c, x]) s = .next (answered s
            { s with channels := put s.channels ch (.digital p { d with outputLevel := decide (x = 1) }) }
            p 0x15 q [c, x] (.built .ok [])))
        ∧ (takesNew s p 0x15 q [c, x] → d.direction = .input →
          exec (.pinDrive p q [c, x]) s = .next (answered s s p 0x15 q [c, x] (.built .wrongMode [])))
        ∧ (takesNew s p 0x16 q [c] →
          exec (.pinRead p q [c]) s = .next (answered s s p 0x16 q [c] (.reading (.pin ch))))

/-- ANALOG_SETTLE_END, at the tick at which Settle Remaining reaches 0 (log 12): the channel becomes ANALOG without subscribers
and CLAIM_DONE is offered to its owner (R28). -/
def Obligations.AnalogSettleEnds : Prop :=
  ∀ (ch : Channel) (o : Port) (n : Nat) (s : State), look s.channels ch = .settling o n true →
    exec (.analogSettleEnd ch) s = .next { s with
      channels := put s.channels ch (.analog o [])
      events := if isOpen s o = true then
          put s.events o (enqueueEvent { kind := .claimDone ch, frame := s.timebase.frameNumber } (look s.events o))
        else s.events }

/-! ### The reference (chapter 03) -/

/-- CLAIM_REFERENCE gives the free role, answers its holder OK and another session IN_USE, with State, Switch Taken and
Target; RELEASE_REFERENCE gives it up with the effect of the table of R56 (R51, R52, R55, R56). -/
def Obligations.ReferenceRole : Prop :=
  (refTriple (.steady .internal false) = [0, 0, 0] ∧ refTriple (.steady .internal true) = [0, 1, 1]
    ∧ refTriple (.steady .external false) = [2, 0, 0] ∧ refTriple (.steady .external true) = [2, 1, 0]
    ∧ ∀ n due, refTriple (.settling .external n due) = [1, 0, 1] ∧ refTriple (.settling .internal n due) = [3, 0, 0])
  ∧ ∀ (p : Port) (q : LinkSeq) (s : State), isOpen s p = true →
    (takesNew s p 0x20 q [] →
      (s.reference.holder = none →
        exec (.claimReference p q []) s = .next (answered s
          { s with reference := { s.reference with holder := some p } } p 0x20 q []
          (.built .ok (refTriple s.reference.state))))
      ∧ (s.reference.holder = some p →
        exec (.claimReference p q []) s = .next (answered s s p 0x20 q [] (.built .ok (refTriple s.reference.state))))
      ∧ (∀ h, s.reference.holder = some h → h ≠ p →
        exec (.claimReference p q []) s
          = .next (answered s s p 0x20 q [] (.built .inUse (refTriple s.reference.state)))))
    ∧ (takesNew s p 0x21 q [] →
      (s.reference.holder ≠ some p →
        exec (.releaseReference p q []) s = .next (answered s s p 0x21 q [] (.built .notOwner [])))
      ∧ (s.reference.holder = some p →
        (s.reference.state = .steady .internal false →
          exec (.releaseReference p q []) s = .next (answered s
            { s with reference := { state := .steady .internal false, holder := none } } p 0x21 q []
            (.built .ok [0, 0, 0, 0])))
        ∧ (s.reference.state = .steady .internal true →
          exec (.releaseReference p q []) s = .next (answered s
            { s with reference := { state := .steady .internal false, holder := none }
                     channels := put s.channels 11 .free } p 0x21 q [] (.built .ok [1, 0, 0, 0])))
        ∧ (s.reference.state = .steady .external false → s.inFlight = none →
          exec (.releaseReference p q []) s = .next (answered s
            { s with reference := { state := .settling .internal 400 false, holder := none } } p 0x21 q []
            (.built .ok [1, 3, 0, 0])))
        ∧ (s.reference.state = .steady .external false → s.inFlight ≠ none →
          exec (.releaseReference p q []) s = .next (answered s
            { s with reference := { state := .steady .external true, holder := none } } p 0x21 q []
            (.built .ok [1, 2, 1, 0])))
        ∧ (s.reference.state = .steady .external true →
          exec (.releaseReference p q []) s = .next (answered s
            { s with reference := { state := .steady .external true, holder := none } } p 0x21 q []
            (.built .ok [0, 2, 1, 0])))
        ∧ (∀ n due, s.reference.state = .settling .external n due →
          exec (.releaseReference p q []) s = .next (answered s
            { s with reference := { state := .settling .internal 400 false, holder := none } } p 0x21 q []
            (.built .ok [1, 3, 0, 0])))
        ∧ (∀ n due, s.reference.state = .settling .internal n due →
          exec (.releaseReference p q []) s = .next (answered s
            { s with reference := { state := .settling .internal n due, holder := none } } p 0x21 q []
            (.built .ok [0, 3, 0, 0])))))

/-- SELECT_REFERENCE by the state of the record and the argument, with its refusals (R53, R54, R55). -/
def Obligations.SelectReferenceTable : Prop :=
  ∀ (p : Port) (q : LinkSeq) (b : Byte) (s : State), takesNew s p 0x22 q [b] → isOpen s p = true →
    (1 < b.toNat → exec (.selectReference p q [b]) s = .next (answered s s p 0x22 q [b] (.built .badArgument [])))
    ∧ (b.toNat ≤ 1 → s.reference.holder ≠ some p →
      exec (.selectReference p q [b]) s = .next (answered s s p 0x22 q [b] (.built .notOwner [])))
    ∧ (s.reference.holder = some p →
      (b = 1 → s.reference.state = .steady .internal false → look s.channels 11 ≠ .free →
        exec (.selectReference p q [b]) s = .next (answered s s p 0x22 q [b] (.built .inUse [])))
      ∧ (b = 1 → s.reference.state = .steady .internal false → look s.channels 11 = .free → s.inFlight = none →
        exec (.selectReference p q [b]) s = .next (answered s
          { s with reference := { s.reference with state := .settling .external 400 false }
                   channels := put s.channels 11 .reference } p 0x22 q [b] (.built .accepted [1, 0, 1, 1, 144])))
      ∧ (b = 1 → s.reference.state = .steady .internal false → look s.channels 11 = .free → s.inFlight ≠ none →
        exec (.selectReference p q [b]) s = .next (answered s
          { s with reference := { s.reference with state := .steady .internal true }
                   channels := put s.channels 11 .reference } p 0x22 q [b] (.built .accepted [0, 1, 1, 0, 0])))
      ∧ (b = 0 → s.reference.state = .steady .internal false →
        exec (.selectReference p q [b]) s = .next (answered s s p 0x22 q [b] (.built .ok [0, 0, 0, 0, 0])))
      ∧ (b = 1 → s.reference.state = .steady .internal true →
        exec (.selectReference p q [b]) s = .next (answered s s p 0x22 q [b] (.built .accepted [0, 1, 1, 0, 0])))
      ∧ (b = 0 → s.reference.state = .steady .internal true →
        exec (.selectReference p q [b]) s = .next (answered s
          { s with reference := { s.reference with state := .steady .internal false }
                   channels := put s.channels 11 .free } p 0x22 q [b] (.built .ok [0, 0, 0, 0, 0])))
      ∧ (b = 1 → s.reference.state = .steady .external false →
        exec (.selectReference p q [b]) s = .next (answered s s p 0x22 q [b] (.built .ok [2, 0, 0, 0, 0])))
      ∧ (b = 0 → s.reference.state = .steady .external false → s.inFlight = none →
        exec (.selectReference p q [b]) s = .next (answered s
          { s with reference := { s.reference with state := .settling .internal 400 false } } p 0x22 q [b]
          (.built .accepted [3, 0, 0, 1, 144])))
      ∧ (b = 0 → s.reference.state = .steady .external false → s.inFlight ≠ none →
        exec (.selectReference p q [b]) s = .next (answered s
          { s with reference := { s.reference with state := .steady .external true } } p 0x22 q [b]
          (.built .accepted [2, 1, 0, 0, 0])))
      ∧ (b = 1 → s.reference.state = .steady .external true →
        exec (.selectReference p q [b]) s = .next (answered s
          { s with reference := { s.reference with state := .steady .external false } } p 0x22 q [b]
          (.built .ok [2, 0, 0, 0, 0])))
      ∧ (b = 0 → s.reference.state = .steady .external true →
        exec (.selectReference p q [b]) s = .next (answered s s p 0x22 q [b] (.built .accepted [2, 1, 0, 0, 0])))
      ∧ (∀ n due, b = 1 → s.reference.state = .settling .external n due →
        exec (.selectReference p q [b]) s = .next (answered s s p 0x22 q [b] (.built .accepted ([1, 0, 1] ++ half n))))
      ∧ (∀ n due, b = 0 → s.reference.state = .settling .external n due →
        exec (.selectReference p q [b]) s = .next (answered s
          { s with reference := { s.reference with state := .settling .internal 400 false } } p 0x22 q [b]
          (.built .accepted [3, 0, 0, 1, 144])))
      ∧ (∀ n due, b = 1 → s.reference.state = .settling .internal n due →
        exec (.selectReference p q [b]) s = .next (answered s
          { s with reference := { s.reference with state := .settling .external 400 false } } p 0x22 q [b]
          (.built .accepted [1, 0, 1, 1, 144])))
      ∧ (∀ n due, b = 0 → s.reference.state = .settling .internal n due →
        exec (.selectReference p q [b]) s = .next (answered s s p 0x22 q [b] (.built .accepted ([3, 0, 0] ++ half n)))))

/-- REFERENCE_SETTLE_END, at the tick at which Settle Remaining reaches 0 (log 12): the State becomes the Target, channel 11
returns to FREE for INTERNAL, REFERENCE_CHANGED is offered to every OPEN session, then the arbiter decides (R57). -/
def Obligations.ReferenceSettleEnds : Prop :=
  ∀ (r : Ref) (n : Nat) (s : State), s.reference.state = .settling r n true →
    ∃ w, offeredToAll s (.referenceChanged r) s.timebase.frameNumber s.events w.events
      ∧ w = { s with
          reference := { s.reference with state := .steady r false }
          channels := match r with | .internal => put s.channels 11 .free | .external => s.channels
          events := w.events }
      ∧ exec .referenceSettleEnd s = .next (arbitrate w)

/-! ### The timebase (chapter 04) -/

/-- CLAIM_TIMEBASE gives the free role, answers its holder OK and another session IN_USE, with the Holder; RELEASE_TIMEBASE
gives it up, NOT_OWNER from any other session; neither changes the timing or the state (R78, R79). -/
def Obligations.TimebaseRole : Prop :=
  ∀ (p : Port) (q : LinkSeq) (s : State), isOpen s p = true →
    (takesNew s p 0x28 q [] →
      (s.timebase.holder = none →
        exec (.claimTimebase p q []) s = .next (answered s
          { s with timebase := { s.timebase with holder := some p } } p 0x28 q [] (.built .ok [1, byte p.val])))
      ∧ (s.timebase.holder = some p →
        exec (.claimTimebase p q []) s = .next (answered s s p 0x28 q [] (.built .ok [1, byte p.val])))
      ∧ (∀ h, s.timebase.holder = some h → h ≠ p →
        exec (.claimTimebase p q []) s = .next (answered s s p 0x28 q [] (.built .inUse [1, byte h.val]))))
    ∧ (takesNew s p 0x29 q [] →
      (s.timebase.holder = some p →
        exec (.releaseTimebase p q []) s = .next (answered s
          { s with timebase := { s.timebase with holder := none } } p 0x29 q [] (.built .ok [])))
      ∧ (s.timebase.holder ≠ some p →
        exec (.releaseTimebase p q []) s = .next (answered s s p 0x29 q [] (.built .notOwner []))))

/-- Frame 0 starts at the first SYNC edge of HUNTING, in LOCKED, and at the hunting limit of four times F, in FLYWHEEL with
SYNC_LOST after TIMEBASE_STARTED: frame number, Elapsed and both counts 0, every slot of the active plan IDLE, then the phase-0
arrival and the arbiter's decision (R65, R74, R75, R77, R105). A frame is running in FREE_RUN, LOCKED and FLYWHEEL (4.2). -/
def Obligations.FrameZeroStarts : Prop :=
  (∀ s : State, running s = true
    ↔ s.timebase.state = .freeRun ∨ s.timebase.state = .locked ∨ s.timebase.state = .flywheel)
  ∧ ∀ (n : Nat) (s : State), s.timebase.state = .hunting n → (s.activePlan.map fun x => x.slot.id).Nodup →
    (s.inReset = false →
      ∃ v u, frameZero .locked [.timebaseStarted] { s with syncEdgeSampled := false } v ∧ zeroArrival v u
        ∧ exec .syncEdge s = .next (arbitrate u))
    ∧ (4 * s.activeTiming.frameLength ≤ n →
      ∃ v u, frameZero .flywheel [.timebaseStarted, .syncLost 0] s v ∧ zeroArrival v u
        ∧ exec .huntingLimit s = .next (arbitrate u))

/-- A SYNC edge is ignored in STOPPED and FREE_RUN; in LOCKED and FLYWHEEL an edge before F − W is counted spurious and does
nothing else, and one from F − W on, up to the tick of the boundary itself, is accepted and takes the boundary with its MISSED
records, MONITOR_DETACHED, COMMIT_APPLIED, re-check and activation count: the new frame is LOCKED with Miss Count 0, with
SYNC_LOCKED after FLYWHEEL, or FREE_RUN under a next timing in FREE mode; or the timebase stops where the next plan is empty
(R66, R67, R69, R71, R72, R102 to R104, R121, R155). That the Miss Count is 0 also at such a stop is the model's choice
(log 13), and so is the order in which the monitors of several leaving slots are freed (log 15). -/
def Obligations.SyncEdgeInFrame : Prop :=
  ∀ s : State, s.inReset = false →
    (s.timebase.state = .stopped ∨ s.timebase.state = .freeRun →
      exec .syncEdge s = .next { s with syncEdgeSampled := false })
    ∧ ∀ ticks, (s.timebase.state = .locked ∨ s.timebase.state = .flywheel) →
      ticks = (if s.timebase.boundaryDue = true then s.timebase.elapsed + 1 else s.timebase.elapsed) →
      (ticks < s.activeTiming.frameLength - s.activeTiming.window →
        exec .syncEdge s = .next { s with
          syncEdgeSampled := false
          timebase := { s.timebase with spuriousCount := min 65535 (s.timebase.spuriousCount + 1) } })
      ∧ (s.activeTiming.frameLength - s.activeTiming.window ≤ ticks → idPoolLawful s →
        ∃ r, exec .syncEdge s = .next r ∧ boundaryTaken true 0 { s with syncEdgeSampled := false } r)

/-- The boundary that the frame's own count takes, at F in FREE_RUN and FLYWHEEL and at F + W in LOCKED with a miss: the frame
number advances, each slot still PENDING is MISSED, monitors of leaving slots are freed with MONITOR_DETACHED, the active plan
and timing become copies of the next ones, COMMIT_APPLIED goes to the noted sessions, the activation count rises and the
re-check removes entries with UNSCHEDULABLE records where plan or timing differ; the new state, Miss Count and SYNC_LOST follow
the table, with the phase-0 arrival and the arbiter's decision; an empty plan stops the timebase with TIMEBASE_STOPPED (R67 to
R72, R102 to R105, R108, R121, R155). The Miss Count of a miss that stops the timebase and the order of several freed monitors
are the model's choices (log 13, 15); see also log 12, 27. -/
def Obligations.FrameBoundaryCounted : Prop :=
  (∀ t : Timing, t.frameEnd .freeRun = t.frameLength ∧ t.frameEnd .flywheel = t.frameLength
    ∧ t.frameEnd .locked = t.frameLength + t.window)
  ∧ ∀ s : State, idPoolLawful s → s.timebase.boundaryDue = true →
    (s.timebase.state = .freeRun ∨ s.timebase.state = .flywheel →
      ∃ r, exec .frameBoundary s = .next r ∧ boundaryTaken false s.timebase.missCount s r)
    ∧ (s.timebase.state = .locked →
      ∃ r, exec .frameBoundary s = .next r ∧ boundaryTaken false (s.timebase.missCount + 1) s r)

/-- PHASE_ARRIVAL of the slot whose phase Elapsed stands at: a void slot or one not due stays IDLE; a due one becomes PENDING
while the reference is steady, else DONE and MISSED with a MISSED record offered to the owner and the subscribers; the arbiter
decides unless the slot is void (R15, R105, R108, R131). The record names the reference in use, or the Target of a switch under
way (R108). -/
def Obligations.PhaseArrivalTable : Prop :=
  (∀ r : Ref, (RefState.steady r false).named = r ∧ (RefState.steady .internal true).named = .external
    ∧ (RefState.steady .external true).named = .internal ∧ ∀ n due, (RefState.settling r n due).named = r)
  ∧ ∀ (s : State) (before after : List ActiveSlot) (a : ActiveSlot),
    running s = true → s.activePlan = before ++ a :: after →
    (s.activePlan.map fun x => x.slot.id).Nodup → (∀ x ∈ before, x.slot.phase ≠ a.slot.phase) →
    a.slot.phase = s.timebase.elapsed → a.arrived = false →
    (a.void = true →
      exec .phaseArrival s = .next { s with activePlan := before ++ { a with arrived := true } :: after })
    ∧ (a.void = false → s.timebase.frameNumber.toNat % a.slot.decimation ≠ a.slot.frameOffset →
      exec .phaseArrival s
        = .next (arbitrate { s with activePlan := before ++ { a with arrived := true } :: after }))
    ∧ (a.void = false → s.timebase.frameNumber.toNat % a.slot.decimation = a.slot.frameOffset →
      ((∃ r, s.reference.state = .steady r false) →
        exec .phaseArrival s
          = .next (arbitrate { s with
              activePlan := before ++ { a with arrived := true, progress := .pending } :: after }))
      ∧ ((∀ r, s.reference.state ≠ .steady r false) →
        exec .phaseArrival s
          = .next (arbitrate { s with
              activePlan := before ++ { a with arrived := true, progress := .done, missed := true } :: after
              results := (a.slot.owner :: (look s.channels a.slot.channel).subscribers).foldl
                (fun rs x => offeredResult s.sessions rs
                  ({ sequence := 0, source := .slot a.slot.id, channel := a.slot.channel,
                     resolution := a.slot.resolution, reference := s.reference.state.named, averaging := .one,
                     flags := { late := false, missed := true, cancelled := false, unschedulable := false,
                                monitorCross := false },
                     value := none, frame := some s.timebase.frameNumber, startPhase := some a.slot.phase,
                     lateness := none }, x)) s.results })))

/-! ### The plans (chapter 05) -/

/-- A plan in phase order is feasible exactly when each slot ends at or before the next phase, the last ends at or before the
limit, every phase is below F and W is at most F/8 (R87); its largest gap is the greatest of the inner gaps and the wrap gap,
and a plan without slots has none (R88). -/
def Obligations.PlanFeasibilityAndGap : Prop :=
  (∀ (t : Timing) (slots : List Slot),
    feasible t slots = true
      ↔ (∀ before a b after, slots = before ++ a :: b :: after →
            a.phase + (a.sampleTicks + a.resolution.ticks) ≤ b.phase)
        ∧ (∀ before a, slots = before ++ [a] →
            a.phase + (a.sampleTicks + a.resolution.ticks)
              ≤ match t.mode with | .free => t.frameLength | .external => t.frameLength - t.window)
        ∧ (∀ a ∈ slots, a.phase < t.frameLength)
        ∧ t.window ≤ t.frameLength / 8)
  ∧ ∀ t : Timing, largestGap t [] = none
    ∧ ∀ (a : Slot) (rest : List Slot), ∃ g, largestGap t (a :: rest) = some g
      ∧ (∀ before x y after, a :: rest = before ++ x :: y :: after →
          y.phase - (x.phase + (x.sampleTicks + x.resolution.ticks)) ≤ g)
      ∧ (∀ before z, a :: rest = before ++ [z] →
          (match t.mode with | .free => t.frameLength | .external => t.frameLength - t.window) + a.phase
            - (z.phase + (z.sampleTicks + z.resolution.ticks)) ≤ g)
      ∧ ((∃ before x y after, a :: rest = before ++ x :: y :: after
            ∧ g = y.phase - (x.phase + (x.sampleTicks + x.resolution.ticks)))
        ∨ ∃ before z, a :: rest = before ++ [z]
            ∧ g = (match t.mode with | .free => t.frameLength | .external => t.frameLength - t.window) + a.phase
              - (z.phase + (z.sampleTicks + z.resolution.ticks)))

/-- STAGE_ADD reserves the lowest-numbered free slot id and appends the ADD; refused in the cases of the table, in its order
(R89, R90, R91). A slot id is free while no ADD of a staging area reserves it and it names no slot of either plan (R89). -/
def Obligations.StageAddReservesId : Prop :=
  (∀ (s : State) (id : SlotId),
    (isReserved s id = true ↔ ∃ x : Port, ∃ sl, Edit.add sl ∈ look s.staging x ∧ sl.id = id)
      ∧ (isFreeId s id = true
        ↔ isReserved s id = false ∧ (∀ sl ∈ s.nextPlan, sl.id ≠ id) ∧ ∀ a ∈ s.activePlan, a.slot.id ≠ id))
  ∧ ∀ (p : Port) (q : LinkSeq) (c hi lo st res d o : Byte) (s : State),
    takesNew s p 0x30 q [c, hi, lo, st, res, d, o] → isOpen s p = true →
    (14 ≤ c.toNat ∨ 65534 < be16 hi lo ∨ st.toNat < 2 ∨ 32 < st.toNat
        ∨ (res.toNat ≠ 8 ∧ res.toNat ≠ 10 ∧ res.toNat ≠ 12) ∨ d.toNat < 1 ∨ 16 < d.toNat ∨ d.toNat ≤ o.toNat →
      exec (.stageAdd p q [c, hi, lo, st, res, d, o]) s
        = .next (answered s s p 0x30 q [c, hi, lo, st, res, d, o] (.built .badArgument [])))
    ∧ ∀ (ch : Channel) (r : Resolution), c.toNat = ch.val → res.toNat = r.bits → be16 hi lo ≤ 65534 →
      2 ≤ st.toNat → st.toNat ≤ 32 → 1 ≤ d.toNat → d.toNat ≤ 16 → o.toNat < d.toNat →
      ((look s.channels ch).owner ≠ some p →
        exec (.stageAdd p q [c, hi, lo, st, res, d, o]) s
          = .next (answered s s p 0x30 q [c, hi, lo, st, res, d, o] (.built .notOwner [])))
      ∧ ((look s.channels ch).owner = some p → (∀ subs, look s.channels ch ≠ .analog p subs) →
        exec (.stageAdd p q [c, hi, lo, st, res, d, o]) s
          = .next (answered s s p 0x30 q [c, hi, lo, st, res, d, o] (.built .wrongMode [])))
      ∧ ∀ subs, look s.channels ch = .analog p subs →
        (8 ≤ (look s.staging p).length ∨ (∀ id : SlotId, isFreeId s id = false) →
          exec (.stageAdd p q [c, hi, lo, st, res, d, o]) s
            = .next (answered s s p 0x30 q [c, hi, lo, st, res, d, o] (.built .full [])))
        ∧ ∀ id : SlotId, (look s.staging p).length < 8 → isFreeId s id = true →
          (∀ lower : SlotId, lower < id → isFreeId s lower = false) →
          exec (.stageAdd p q [c, hi, lo, st, res, d, o]) s = .next (answered s
            { s with staging := put s.staging p (look s.staging p ++ [.add
                { id, owner := p, channel := ch, phase := be16 hi lo, sampleTicks := st.toNat, resolution := r,
                  decimation := d.toNat, frameOffset := o.toNat }]) }
            p 0x30 q [c, hi, lo, st, res, d, o]
            (.built .ok [byte id.val, byte (look s.staging p).length, byte ((look s.staging p).length + 1)]))

/-- STAGE_MOVE and STAGE_DROP append their edit where the id names a slot of the next plan that the session owns or is
reserved in its own staging area; refused in the cases of the table, in its order (R90, R92). -/
def Obligations.StageMoveAndDrop : Prop :=
  ∀ (p : Port) (q : LinkSeq) (b hi lo : Byte) (s : State), isOpen s p = true →
    (takesNew s p 0x31 q [b, hi, lo] → 24 ≤ b.toNat ∨ 65534 < be16 hi lo →
      exec (.stageMove p q [b, hi, lo]) s = .next (answered s s p 0x31 q [b, hi, lo] (.built .badArgument [])))
    ∧ (takesNew s p 0x32 q [b] → 24 ≤ b.toNat →
      exec (.stageDrop p q [b]) s = .next (answered s s p 0x32 q [b] (.built .badArgument [])))
    ∧ ∀ id : SlotId, b.toNat = id.val → be16 hi lo ≤ 65534 →
      ((∀ sl ∈ s.nextPlan, sl.id ≠ id) → (∀ sl, Edit.add sl ∈ look s.staging p → sl.id ≠ id) →
        (takesNew s p 0x31 q [b, hi, lo] →
          exec (.stageMove p q [b, hi, lo]) s = .next (answered s s p 0x31 q [b, hi, lo] (.built .notFound [])))
        ∧ (takesNew s p 0x32 q [b] →
          exec (.stageDrop p q [b]) s = .next (answered s s p 0x32 q [b] (.built .notFound []))))
      ∧ (∀ sl, s.nextPlan.find? (fun x => x.id == id) = some sl → sl.owner ≠ p →
        (takesNew s p 0x31 q [b, hi, lo] →
          exec (.stageMove p q [b, hi, lo]) s = .next (answered s s p 0x31 q [b, hi, lo] (.built .notOwner [])))
        ∧ (takesNew s p 0x32 q [b] →
          exec (.stageDrop p q [b]) s = .next (answered s s p 0x32 q [b] (.built .notOwner []))))
      ∧ ((∃ sl, s.nextPlan.find? (fun x => x.id == id) = some sl ∧ sl.owner = p)
          ∨ ((∀ sl ∈ s.nextPlan, sl.id ≠ id) ∧ ∃ sl, Edit.add sl ∈ look s.staging p ∧ sl.id = id) →
        (8 ≤ (look s.staging p).length →
          (takesNew s p 0x31 q [b, hi, lo] →
            exec (.stageMove p q [b, hi, lo]) s = .next (answered s s p 0x31 q [b, hi, lo] (.built .full [])))
          ∧ (takesNew s p 0x32 q [b] →
            exec (.stageDrop p q [b]) s = .next (answered s s p 0x32 q [b] (.built .full []))))
        ∧ ((look s.staging p).length < 8 →
          (takesNew s p 0x31 q [b, hi, lo] →
            exec (.stageMove p q [b, hi, lo]) s = .next (answered s
              { s with staging := put s.staging p (look s.staging p ++ [.move id (be16 hi lo)]) }
              p 0x31 q [b, hi, lo]
              (.built .ok [byte (look s.staging p).length, byte ((look s.staging p).length + 1)])))
          ∧ (takesNew s p 0x32 q [b] →
            exec (.stageDrop p q [b]) s = .next (answered s
              { s with staging := put s.staging p (look s.staging p ++ [.drop id]) } p 0x32 q [b]
              (.built .ok [byte (look s.staging p).length, byte ((look s.staging p).length + 1)])))))

/-- STAGE_TIMING of the timebase holder appends a TIMING edit, or replaces the one already staged in its place; refused in
the cases of the table, in its order (R90, R93). -/
def Obligations.StageTimingPlacesEdit : Prop :=
  ∀ (p : Port) (q : LinkSeq) (fHi fLo m wHi wLo : Byte) (s : State),
    takesNew s p 0x33 q [fHi, fLo, m, wHi, wLo] → isOpen s p = true →
    (be16 fHi fLo < 200 ∨ 1 < m.toNat ∨ be16 fHi fLo / 8 < be16 wHi wLo →
      exec (.stageTiming p q [fHi, fLo, m, wHi, wLo]) s
        = .next (answered s s p 0x33 q [fHi, fLo, m, wHi, wLo] (.built .badArgument [])))
    ∧ (200 ≤ be16 fHi fLo → m.toNat ≤ 1 → be16 wHi wLo ≤ be16 fHi fLo / 8 →
      (s.timebase.holder ≠ some p →
        exec (.stageTiming p q [fHi, fLo, m, wHi, wLo]) s
          = .next (answered s s p 0x33 q [fHi, fLo, m, wHi, wLo] (.built .notOwner [])))
      ∧ (s.timebase.holder = some p →
        (8 ≤ (look s.staging p).length → (∀ t, Edit.timing t ∉ look s.staging p) →
          exec (.stageTiming p q [fHi, fLo, m, wHi, wLo]) s
            = .next (answered s s p 0x33 q [fHi, fLo, m, wHi, wLo] (.built .full [])))
        ∧ ((look s.staging p).length < 8 → (∀ t, Edit.timing t ∉ look s.staging p) →
          exec (.stageTiming p q [fHi, fLo, m, wHi, wLo]) s = .next (answered s
            { s with staging := put s.staging p (look s.staging p ++ [.timing
                { frameLength := be16 fHi fLo, mode := if m = 0 then .free else .external,
                  window := be16 wHi wLo }]) }
            p 0x33 q [fHi, fLo, m, wHi, wLo]
            (.built .ok [byte (look s.staging p).length, byte ((look s.staging p).length + 1)])))
        ∧ (∀ before old after, look s.staging p = before ++ .timing old :: after →
          (∀ t, Edit.timing t ∉ before) → (∀ t, Edit.timing t ∉ after) →
          exec (.stageTiming p q [fHi, fLo, m, wHi, wLo]) s = .next (answered s
            { s with staging := put s.staging p (before ++ .timing
                { frameLength := be16 fHi fLo, mode := if m = 0 then .free else .external,
                  window := be16 wHi wLo } :: after) }
            p 0x33 q [fHi, fLo, m, wHi, wLo]
            (.built .ok [byte before.length, byte (look s.staging p).length])))))

/-- STAGE_CLEAR empties the requesting session's staging area, which frees the ids reserved in it, touches no plan, and
answers the number of edits removed (R94). -/
def Obligations.StageClearEmptiesArea : Prop :=
  ∀ (p : Port) (q : LinkSeq) (s : State), takesNew s p 0x34 q [] → isOpen s p = true →
    exec (.stageClear p q []) s = .next (answered s { s with staging := put s.staging p [] } p 0x34 q []
        (.built .ok [byte (look s.staging p).length]))
      ∧ ∀ t, exec (.stageClear p q []) s = .next t → ∀ id : SlotId, isReserved t id = true →
          ∃ x, x ≠ p ∧ ∃ sl, Edit.add sl ∈ look s.staging x ∧ sl.id = id

/-- COMMIT with a count that is not the staging area's, or whose building fails, or whose copy does not fit, changes nothing
and answers the failing edit and the edit count; an empty COMMIT of an empty area is answered OK and changes nothing either
(its payload is the model's choice, log 22). The copy is the next plan with the edits applied in index order, up to the first
that fails, its slots then in phase order; a single edit acts and fails as the table of R96 gives; the failing edit of
INFEASIBLE is the first that names an offending slot, or the TIMING edit where the limit or F is passed (R95, R96, R97, R100).
Where two slots share a phase their order is free (log 14). -/
def Obligations.CommitRefused : Prop :=
  (∀ (p : Port) (q : LinkSeq) (n : Byte) (s : State), takesNew s p 0x35 q [n] → isOpen s p = true →
    (8 < n.toNat ∨ n.toNat ≠ (look s.staging p).length →
      exec (.commit p q [n]) s = .next (answered s s p 0x35 q [n] (.built .badArgument
        [byte (look s.staging p).length, byte (look s.staging p).length])))
    ∧ (n = 0 → look s.staging p = [] →
      exec (.commit p q [n]) s = .next (answered s s p 0x35 q [n] (.built .ok
        ([0, 0, byte s.nextPlan.length] ++ gapField (largestGap s.nextTiming s.nextPlan)))))
    ∧ (n.toNat = (look s.staging p).length → n.toNat ≤ 8 → look s.staging p ≠ [] →
      (∀ i st, buildCopy s p = .error (i, st) →
        exec (.commit p q [n]) s = .next (answered s s p 0x35 q [n] (.built st
          [byte i, byte (look s.staging p).length])))
      ∧ (∀ c, buildCopy s p = .ok c → feasible c.timing c.slots = false → ∃ i,
        exec (.commit p q [n]) s = .next (answered s s p 0x35 q [n] (.built .infeasible
          [byte i, byte (look s.staging p).length]))
        ∧ (∀ j e, j < i → (look s.staging p)[j]? = some e → ¬offendingEdit c e)
        ∧ ∀ e, (look s.staging p)[i]? = some e → offendingEdit c e)))
  ∧ (∀ (p : Port) (s : State) (start : PlanCopy), start = { timing := s.nextTiming, slots := s.nextPlan } →
    (∀ i st, buildCopy s p = .error (i, st)
      ↔ ∃ before e after c, look s.staging p = before ++ e :: after ∧ before.length = i
          ∧ editsApplied s p before start c ∧ applyEdit s p c e = .error st)
    ∧ ∀ d, editsApplied s p (look s.staging p) start d →
      ∃ c, buildCopy s p = .ok c ∧ c.timing = d.timing ∧ c.slots.Perm d.slots
        ∧ c.slots.Pairwise fun x y => x.phase ≤ y.phase)
  ∧ ∀ (p : Port) (s : State) (c : PlanCopy),
    (∀ sl, (∀ subs, look s.channels sl.channel ≠ .analog p subs) → applyEdit s p c (.add sl) = .error .notOwner)
    ∧ (∀ sl subs, look s.channels sl.channel = .analog p subs →
        applyEdit s p c (.add sl) = .ok { c with slots := c.slots ++ [{ sl with owner := p }] })
    ∧ (∀ id ph, (∀ x ∈ c.slots, x.id ≠ id) →
        applyEdit s p c (.move id ph) = .error .notFound ∧ applyEdit s p c (.drop id) = .error .notFound)
    ∧ (∀ id ph x, c.slots.find? (fun y => y.id == id) = some x → x.owner ≠ p →
        applyEdit s p c (.move id ph) = .error .notOwner ∧ applyEdit s p c (.drop id) = .error .notOwner)
    ∧ (∀ id ph x, c.slots.find? (fun y => y.id == id) = some x → x.owner = p →
        applyEdit s p c (.move id ph)
            = .ok { c with slots := c.slots.map fun y => if y.id = id then { y with phase := ph } else y }
          ∧ applyEdit s p c (.drop id) = .ok { c with slots := c.slots.filter fun y => y.id != id })
    ∧ (∀ t, s.timebase.holder ≠ some p → applyEdit s p c (.timing t) = .error .notOwner)
    ∧ ∀ t, s.timebase.holder = some p → applyEdit s p c (.timing t) = .ok { c with timing := t }

/-- A COMMIT whose copy is feasible makes it the next plan, empties the staging area and frees the monitors of slots that leave
the hub, with MONITOR_DETACHED. While a frame is running it is ACCEPTED, the session is noted and the active plan stands.
Otherwise it is applied at once and answered OK: monitors of leaving slots are freed, the active plan and timing are replaced,
the activation count rises and the re-check is made where they differ, and the timebase stops, starts frame 0 in FREE_RUN with
TIMEBASE_STARTED, hunts, or reaches the hunting limit with SYNC_LOST. The arbiter decides last (R15, R73, R75, R76, R77, R98,
R99, R104, R121, R155; log 10, 15). That the re-check comes before the timebase acts, that HUNTING keeps the Miss Count of the
stop, and that the arbiter decides also where no plan changes, are the model's choices (log 28, 13, 29). -/
def Obligations.CommitNotedOrApplied : Prop :=
  ∀ (p : Port) (q : LinkSeq) (n : Byte) (s : State) (c : PlanCopy), takesNew s p 0x35 q [n] → isOpen s p = true →
    n.toNat = (look s.staging p).length → n.toNat ≤ 8 → look s.staging p ≠ [] → buildCopy s p = .ok c →
    feasible c.timing c.slots = true → idPoolLawful s →
    ∃ b, monitorsFreed ((s.nextPlan.map fun x => x.id).filter fun id =>
          !(c.slots.any fun x => x.id == id) && !(s.activePlan.any fun a => a.slot.id == id))
        { s with nextPlan := c.slots, nextTiming := c.timing, staging := put s.staging p [] } b
      ∧ (running s = true →
        exec (.commit p q [n]) s = .next (answered s (arbitrate { b with noted := put s.noted p true }) p 0x35 q [n]
          (.built .accepted (half (s.timebase.frameNumber + 1).toNat ++ [byte c.slots.length]
            ++ gapField (largestGap c.timing c.slots)))))
      ∧ (running s = false → ∃ w u, planReplaced b w
        ∧ exec (.commit p q [n]) s = .next (answered s (arbitrate u) p 0x35 q [n]
          (.built .ok ([0, 0, byte c.slots.length] ++ gapField (largestGap c.timing c.slots))))
        ∧ (c.slots = [] →
          u = { w with timebase := { s.timebase with
            state := .stopped, frameNumber := 0, elapsed := 0, boundaryDue := false } })
        ∧ (c.slots ≠ [] → c.timing.mode = .free → ∃ v, frameZero .freeRun [.timebaseStarted] w v ∧ zeroArrival v u)
        ∧ (c.slots ≠ [] → c.timing.mode = .external → s.timebase.state = .stopped →
          u = { w with timebase := { s.timebase with state := .hunting 0 } })
        ∧ (∀ k, c.slots ≠ [] → c.timing.mode = .external → s.timebase.state = .hunting k →
          (k < 4 * c.timing.frameLength → u = w)
          ∧ (4 * c.timing.frameLength ≤ k →
            ∃ v, frameZero .flywheel [.timebaseStarted, .syncLost 0] w v ∧ zeroArrival v u)))

/-! ### On-demand work and the converter (chapters 06 and 01) -/

/-- SUBMIT appends an entry with its computed occupancy and the arbiter decides; the reply carries the position, the
occupancy and the largest gap. The refusals stand in the order of the table (R114, R115, R116, R117). The gap is the largest gap
under the active timing of the slots of the active plan that are not void (R88, R117); an unbounded one reads 0xFFFF (R193).
Conversion ticks, resolutions and averaging counts are those of R1. -/
def Obligations.SubmitJoinsQueue : Prop :=
  (∀ s : State, activeGap s = largestGap s.activeTiming ((s.activePlan.filter fun a => !a.void).map fun a => a.slot))
  ∧ (∀ g : Nat, gapField (some g) = half g) ∧ gapField none = [0xFF, 0xFF]
  ∧ (Resolution.bits8.ticks = 5 ∧ Resolution.bits10.ticks = 6 ∧ Resolution.bits12.ticks = 7
    ∧ Resolution.bits8.bits = 8 ∧ Resolution.bits10.bits = 10 ∧ Resolution.bits12.bits = 12
    ∧ Averaging.one.count = 1 ∧ Averaging.two.count = 2 ∧ Averaging.four.count = 4 ∧ Averaging.eight.count = 8
    ∧ ∀ (r : Resolution) (st : Nat) (a : Averaging), occupancy r st a = a.count * (st + r.ticks))
  ∧ ∀ (p : Port) (q : LinkSeq) (tag c res st n : Byte) (s : State),
    takesNew s p 0x40 q [tag, c, res, st, n] → isOpen s p = true →
    (14 ≤ c.toNat ∨ (res.toNat ≠ 8 ∧ res.toNat ≠ 10 ∧ res.toNat ≠ 12) ∨ st.toNat < 2 ∨ 32 < st.toNat
        ∨ (n.toNat ≠ 1 ∧ n.toNat ≠ 2 ∧ n.toNat ≠ 4 ∧ n.toNat ≠ 8) →
      exec (.submit p q [tag, c, res, st, n]) s = .next (answered s s p 0x40 q [tag, c, res, st, n]
        (.built .badArgument [byte (look s.requests p).length])))
    ∧ ∀ (ch : Channel) (r : Resolution) (a : Averaging), c.toNat = ch.val → res.toNat = r.bits → n.toNat = a.count →
      2 ≤ st.toNat → st.toNat ≤ 32 →
      ((look s.channels ch).owner ≠ some p → p ∉ (look s.channels ch).subscribers →
        exec (.submit p q [tag, c, res, st, n]) s = .next (answered s s p 0x40 q [tag, c, res, st, n]
          (.built .notOwner [byte (look s.requests p).length])))
      ∧ ((look s.channels ch).owner = some p → (∀ subs, look s.channels ch ≠ .analog p subs) →
        exec (.submit p q [tag, c, res, st, n]) s = .next (answered s s p 0x40 q [tag, c, res, st, n]
          (.built .wrongMode [byte (look s.requests p).length])))
      ∧ (∀ o subs, look s.channels ch = .analog o subs → (o = p ∨ p ∈ subs) →
        (((∃ e ∈ look s.requests p, e.tag = tag)
            ∨ ∃ f, s.inFlight = some f ∧ f.source = .request tag ∧ f.session = p ∧ f.discard = false) →
          exec (.submit p q [tag, c, res, st, n]) s = .next (answered s s p 0x40 q [tag, c, res, st, n]
            (.built .badArgument [byte (look s.requests p).length])))
        ∧ (¬((∃ e ∈ look s.requests p, e.tag = tag)
            ∨ ∃ f, s.inFlight = some f ∧ f.source = .request tag ∧ f.session = p ∧ f.discard = false) →
          (8 ≤ (look s.requests p).length →
            exec (.submit p q [tag, c, res, st, n]) s = .next (answered s s p 0x40 q [tag, c, res, st, n]
              (.built .full [byte (look s.requests p).length])))
          ∧ (∀ g, (look s.requests p).length < 8 → activeGap s = some g → g < a.count * (st.toNat + r.ticks) →
            exec (.submit p q [tag, c, res, st, n]) s = .next (answered s s p 0x40 q [tag, c, res, st, n]
              (.built .unschedulable (half (a.count * (st.toNat + r.ticks)) ++ half g))))
          ∧ ((look s.requests p).length < 8 → (∀ g, activeGap s = some g → a.count * (st.toNat + r.ticks) ≤ g) →
            exec (.submit p q [tag, c, res, st, n]) s = .next (answered s
              (arbitrate { s with requests := put s.requests p (look s.requests p ++
                [{ tag, channel := ch, resolution := r, sampleTicks := st.toNat, averaging := a,
                   occupancy := a.count * (st.toNat + r.ticks) }]) })
              p 0x40 q [tag, c, res, st, n]
              (.built .ok ([byte ((look s.requests p).length + 1)] ++ half (a.count * (st.toNat + r.ticks))
                ++ gapField (activeGap s)))))))

/-- CANCEL removes the queued entry with the Tag, with one CANCELLED record, and the arbiter decides where it was the head;
TOO_LATE for the conversion in flight, NOT_FOUND for a Tag not in use (R114, R118, R120). -/
def Obligations.CancelRemovesEntry : Prop :=
  ∀ (p : Port) (q : LinkSeq) (tag : Byte) (s : State), takesNew s p 0x41 q [tag] → isOpen s p = true →
    ((∀ e ∈ look s.requests p, e.tag ≠ tag) →
      ((∃ f, s.inFlight = some f ∧ f.source = .request tag ∧ f.session = p ∧ f.discard = false) →
        exec (.cancel p q [tag]) s = .next (answered s s p 0x41 q [tag] (.built .tooLate [])))
      ∧ (¬(∃ f, s.inFlight = some f ∧ f.source = .request tag ∧ f.session = p ∧ f.discard = false) →
        exec (.cancel p q [tag]) s = .next (answered s s p 0x41 q [tag] (.built .notFound []))))
    ∧ ∀ (before after : List RequestEntry) (e : RequestEntry), look s.requests p = before ++ e :: after →
      e.tag = tag → (∀ x ∈ before, x.tag ≠ tag) → (∀ x ∈ after, x.tag ≠ tag) →
      ∃ w, w = { s with
          requests := put s.requests p (before ++ after)
          results := put s.results p (afterCancelled s p [e]) }
        ∧ exec (.cancel p q [tag]) s = .next (answered s
            (if before = [] then arbitrate w else w) p 0x41 q [tag]
            (.built .ok [byte (before ++ after).length]))

/-- A decision: nothing while the converter is CONVERTING or a switch is taken or settling; else the first PENDING slot in
phase order, with its in-flight record; else the first head in round-robin order whose session is OPEN and that fits, with
its own; else nothing (R5, R6, R7, R15 to R19, R106). The event 'the head of a request queue leaves it', which CLAIM, RELEASE,
UNSUBSCRIBE, CLOSE and LEASE_EXPIRY test for a decision, is that the head of some queue no longer stands at its head (R15). -/
def Obligations.ArbiterDecision : Prop :=
  (∀ before after : Vector (List RequestEntry) 4,
    headLeft before after = true
      ↔ ∃ (p : Port) (e : RequestEntry) (rest : List RequestEntry),
          look before p = e :: rest ∧ (look after p).head? ≠ some e)
  ∧ ∀ s : State,
    (s.inFlight.isSome = true ∨ (∀ r, s.reference.state ≠ .steady r false) → arbitrate s = s)
    ∧ ∀ r, s.inFlight = none → s.reference.state = .steady r false →
      (∀ before a after, s.activePlan = before ++ a :: after → (s.activePlan.map fun x => x.slot.id).Nodup →
        (∀ x ∈ before, x.progress ≠ .pending) → a.progress = .pending → running s = true →
        arbitrate s = { s with
          activePlan := before ++ { a with
            progress := .inFlight
            lateness := if a.slot.phase < s.timebase.elapsed
              then some (min 255 (s.timebase.elapsed - a.slot.phase)) else none } :: after
          inFlight := some {
            source := .slot a.slot.id, session := a.slot.owner, channel := a.slot.channel,
            resolution := a.slot.resolution, sampleTicks := a.slot.sampleTicks, averaging := .one, reference := r,
            startTick := s.clock, plannedEnd := s.clock + (a.slot.sampleTicks + a.slot.resolution.ticks),
            frame := s.timebase.frameNumber, startPhase := s.timebase.elapsed,
            lateness := if a.slot.phase < s.timebase.elapsed
              then some (min 255 (s.timebase.elapsed - a.slot.phase)) else none,
            monitor := monitorOf s a.slot.id,
            recipients := (a.slot.owner :: (look s.channels a.slot.channel).subscribers).map
              fun x => { session := x, skipped := false },
            discard := false, slotStands := true, samples := [] } })
      ∧ ((∀ x ∈ s.activePlan, x.progress ≠ .pending) →
        ((∀ p e rest, look s.requests p = e :: rest → isOpen s p = true →
            fits s (e.averaging.count * (e.sampleTicks + e.resolution.ticks)) = false) → arbitrate s = s)
        ∧ ∀ (passed later : List Port) (p : Port) (e : RequestEntry) (rest : List RequestEntry),
          [s.pointer + 1, s.pointer + 2, s.pointer + 3, s.pointer] = passed ++ p :: later →
          (∀ x ∈ passed, ∀ f more, look s.requests x = f :: more → isOpen s x = true →
            fits s (f.averaging.count * (f.sampleTicks + f.resolution.ticks)) = false) →
          look s.requests p = e :: rest → isOpen s p = true →
          fits s (e.averaging.count * (e.sampleTicks + e.resolution.ticks)) = true →
          arbitrate s = { s with
            pointer := p
            requests := put s.requests p rest
            inFlight := some {
              source := .request e.tag, session := p, channel := e.channel, resolution := e.resolution,
              sampleTicks := e.sampleTicks, averaging := e.averaging, reference := r, startTick := s.clock,
              plannedEnd := s.clock + e.averaging.count * (e.sampleTicks + e.resolution.ticks),
              frame := if running s = true then s.timebase.frameNumber else 0,
              startPhase := if running s = true then s.timebase.elapsed else 0,
              lateness := none, monitor := none, recipients := [{ session := p, skipped := false }],
              discard := false, slotStands := false, samples := [] } })

/-- The fit rule, at the ticks passed since the frame start (log 12): a request fits up to the phase of the first slot, not
void, whose arrival has not been taken; else up to the earliest boundary plus the first phase of the next plan; always where
the next plan is empty and while no frame is running (R19, R20). -/
def Obligations.FitRule : Prop :=
  ∀ (s : State) (d ticks : Nat),
    ticks = (if s.timebase.boundaryDue = true then s.timebase.elapsed + 1 else s.timebase.elapsed) →
    (running s = false → fits s d = true)
    ∧ (running s = true →
      (∀ before a after, s.activePlan = before ++ a :: after → (∀ x ∈ before, x.void = true ∨ x.arrived = true) →
        a.void = false → a.arrived = false → (fits s d = true ↔ ticks + d ≤ a.slot.phase))
      ∧ ((∀ x ∈ s.activePlan, x.void = true ∨ x.arrived = true) →
        (s.nextPlan = [] → fits s d = true)
        ∧ ∀ first rest, s.nextPlan = first :: rest →
          (s.timebase.state = .freeRun →
            (fits s d = true ↔ ticks + d ≤ s.activeTiming.frameLength + first.phase))
          ∧ (s.timebase.state = .locked ∨ s.timebase.state = .flywheel →
            (fits s d = true
              ↔ ticks + d
                ≤ s.activeTiming.frameLength - s.activeTiming.window + first.phase))))

/-- The condition that a channel's record sets for its pin (R25). The voltage of a pin: as the board holds it, else driven or
pulled up, exactly to the supply or 0 V, else floating (the order and the driven and pulled-up voltages are the model's choice,
log 18). The voltage of a channel and of a reference (R8, R50). The code of a sample and the value of a conversion, the level of a
pin (R8, R9, R45; log 17). -/
def Obligations.SampleCodesAndMean : Prop :=
  ((∀ (o : Port) (d : DigitalPart), pinCondition (.digital o d)
      = { bufferConnected := true, pullUp := d.pullUp,
          driven := match d.direction with | .input => none | .output => some d.outputLevel })
    ∧ ∀ c : ChannelRec, (∀ o d, c ≠ .digital o d) →
      pinCondition c = { bufferConnected := false, pullUp := false, driven := none })
  ∧ (∀ s : State, 3 ≤ supplyVolts s ∧ supplyVolts s ≤ 36 / 10
    ∧ supplyVolts s = max 3 (min (36 / 10) (Config.boardSupply s.moment)))
  ∧ (∀ (s : State) (k : Fin 12) (ch : Channel), ch.val = k.val →
    pinVolts s k = match Config.outsideVolts s.moment k with
      | some v => v
      | none => match (pinCondition (look s.channels ch)).driven with
        | some level => if level = true then supplyVolts s else 0
        | none => if (pinCondition (look s.channels ch)).pullUp = true then supplyVolts s
            else Config.floatingVolts s.moment k)
  ∧ (∀ s : State, refVolts s .internal = 2048 / 1000 ∧ refVolts s .external = pinVolts s 11)
  ∧ (∀ (s : State) (r : Ref) (ch : Channel),
    (∀ k : Fin 12, ch.val = k.val → channelVolts s r ch = pinVolts s k)
    ∧ (ch.val = 12 → channelVolts s r ch = supplyVolts s / 4)
    ∧ (ch.val = 13 → channelVolts s r ch = refVolts s r / 2))
  ∧ (∀ (res : Resolution) (v vref : Rat) (free : Nat),
    (v ≤ 0 → v < vref → sampleCode res v vref free = 0)
    ∧ (0 < v → vref ≤ v → sampleCode res v vref free = 2 ^ res.bits - 1)
    ∧ (0 < v → v < vref →
      (sampleCode res v vref free : Rat) ≤ v * 2 ^ res.bits / vref
        ∧ v * 2 ^ res.bits / vref < sampleCode res v vref free + 1))
  ∧ (∀ c : InFlight, c.value * c.averaging.count ≤ c.samples.sum
      ∧ c.samples.sum < (c.value + 1) * c.averaging.count)
  ∧ (∀ (s : State) (k : Fin 12),
    (7 / 10 * supplyVolts s < pinVolts s k → pinLevel s k = true)
    ∧ (pinVolts s k < 3 / 10 * supplyVolts s → pinLevel s k = false))

/-- CONVERSION_END at the planned end: the converter is IDLE, a slot whose record still stands is DONE, and a taken switch
begins its settle; a discarded conversion hands nothing over; otherwise the channel's latest value is replaced unless it is
FREE or REFERENCE, and one record is offered to each recipient not skipped, in order. The arbiter decides last (R10, R54,
R107, R128, R129, R130, R140). -/
def Obligations.ConversionEndDelivers : Prop :=
  Ref.internal.other = .external ∧ Ref.external.other = .internal
  ∧ ∀ (s : State) (c : InFlight), s.inFlight = some c → c.plannedEnd ≤ s.clock →
    ∃ w, exec .conversionEnd s = .next (arbitrate w)
      ∧ w.inFlight = none
      ∧ (∀ r, s.reference.state = .steady r true →
          w.reference = { s.reference with state := .settling r.other 400 false })
      ∧ ((∀ r, s.reference.state ≠ .steady r true) → w.reference = s.reference)
      ∧ (∀ id, c.source = .slot id → c.slotStands = true →
          w.activePlan = s.activePlan.map fun a =>
            if a.slot.id = id ∧ a.progress = .inFlight then { a with progress := .done } else a)
      ∧ ((∀ id, c.source ≠ .slot id) ∨ c.slotStands = false → w.activePlan = s.activePlan)
      ∧ w = { s with
          inFlight := none, reference := w.reference, activePlan := w.activePlan, latest := w.latest,
          results := w.results, monitors := w.monitors, events := w.events }
      ∧ (c.discard = true →
        w.latest = s.latest ∧ w.results = s.results ∧ w.monitors = s.monitors ∧ w.events = s.events)
      ∧ (c.discard = false →
        (∀ ch, ch ≠ c.channel → look w.latest ch = look s.latest ch)
        ∧ (look s.channels c.channel = .free ∨ look s.channels c.channel = .reference → w.latest = s.latest)
        ∧ (look s.channels c.channel ≠ .free → look s.channels c.channel ≠ .reference →
          look w.latest c.channel = some { value := c.samples.sum / c.averaging.count, resolution := c.resolution,
                                           reference := c.reference, frame := c.frame, source := c.source, session := c.session })
        ∧ (c.monitor = none → w.monitors = s.monitors ∧ w.events = s.events)
        ∧ ∃ cross, (c.monitor = none → cross = false)
          ∧ (∀ m r, c.monitor = some m → look s.monitors m = some r →
            ∃ v z, v = c.samples.sum / c.averaging.count * 2 ^ (12 - c.resolution.bits) ∧ z = zoneOf r v
              ∧ w.monitors = put s.monitors m (some (classified r z)) ∧ cross = reportsCrossing r z
              ∧ w.events = if cross = true ∧ isOpen s r.owner = true then
                  put s.events r.owner (enqueueEvent
                    { kind := .monitorCross m r.slot z v, frame := s.timebase.frameNumber } (look s.events r.owner))
                else s.events)
          ∧ w.results = (c.recipients.filter fun x => !x.skipped).foldl
              (fun rs x => offeredResult s.sessions rs
                ({ sequence := 0, source := c.source, channel := c.channel, resolution := c.resolution,
                   reference := c.reference, averaging := c.averaging,
                   flags := { late := c.lateness.isSome, missed := false, cancelled := false, unschedulable := false,
                              monitorCross := cross },
                   value := some (c.samples.sum / c.averaging.count), frame := some c.frame,
                   startPhase := some c.startPhase, lateness := c.lateness }, x.session)) s.results)

/-! ### Queues (chapters 07 and 09) -/

/-- A record joins a result queue with the next sequence number while it holds fewer than 32; a full queue discards it or its
own head, as the policy says, and counts it, saturating; an event joins while fewer than 16 stand, else it is lost and counted;
a session that is not OPEN is offered neither (R130, R133, R134, R135, R160). -/
def Obligations.QueueOverflowRules : Prop :=
  (∀ (policy : OverflowPolicy) (r : ResultRecord) (q : ResultQueue), q.records.length < 32 →
    enqueue policy r q = { q with
      records := q.records ++ [{ r with sequence := q.nextSequence }], nextSequence := q.nextSequence + 1 })
  ∧ (∀ (r : ResultRecord) (q : ResultQueue), 32 ≤ q.records.length →
    enqueue .dropNewest r q = { q with overflow := min 65535 (q.overflow + 1) }
    ∧ enqueue .overwriteOldest r q = {
        records := q.records.drop 1 ++ [{ r with sequence := q.nextSequence }]
        nextSequence := q.nextSequence + 1
        overflow := min 65535 (q.overflow + 1) })
  ∧ (∀ (e : EventRecord) (q : EventQueue),
    (q.records.length < 16 → enqueueEvent e q = { q with records := q.records ++ [e] })
    ∧ (16 ≤ q.records.length → enqueueEvent e q = { q with lost := min 255 (q.lost + 1) }))
  ∧ (∀ (s : State) (p : Port) (r : ResultRecord) (k : EventKind) (frame : Half) (rs : Vector ResultQueue 4)
      (qs : Vector EventQueue 4),
    (∀ l, (look s.sessions p).state = .opened l →
      offeredResult s.sessions rs (r, p) = put rs p (enqueue l.policy r (look rs p))
      ∧ offeredEvent s.sessions frame qs (k, p) = put qs p (enqueueEvent { kind := k, frame } (look qs p)))
    ∧ (isOpen s p = false →
      offeredResult s.sessions rs (r, p) = rs ∧ offeredEvent s.sessions frame qs (k, p) = qs))
  ∧ ∀ (s : State) (p : Port) (r : ResultRecord) (k : EventKind),
    (∀ l, (look s.sessions p).state = .opened l →
      offerResults [(r, p)] s = { s with results := put s.results p (enqueue l.policy r (look s.results p)) }
      ∧ offerEvents [(k, p)] s
        = { s with events := put s.events p <|
                    enqueueEvent { kind := k, frame := s.timebase.frameNumber } (look s.events p) })
    ∧ (isOpen s p = false → offerResults [(r, p)] s = s ∧ offerEvents [(k, p)] s = s)

/-- FETCH_RESULTS and FETCH_EVENTS with a maximum of 1 to 4 remove that many records from the head, or all there are, answer
them in queue order with the remaining count and the overflow or lost count, and clear that count; another maximum is refused
BAD_ARGUMENT. The bytes of a result record and of an event record are those of 11.6.2 and 11.6.3 (R139, R163, R193). -/
def Obligations.FetchRemovesFromHead : Prop :=
  (∀ (p : Port) (q : LinkSeq) (b : Byte) (s : State), isOpen s p = true →
    (takesNew s p 0x48 q [b] →
      (b.toNat < 1 ∨ 4 < b.toNat →
        exec (.fetchResults p q [b]) s = .next (answered s s p 0x48 q [b] (.built .badArgument [])))
      ∧ (1 ≤ b.toNat → b.toNat ≤ 4 → ∀ gone left, (look s.results p).records = gone ++ left →
        gone.length = min b.toNat (look s.results p).records.length →
        exec (.fetchResults p q [b]) s = .next (answered s
          { s with results := put s.results p { look s.results p with records := left, overflow := 0 } }
          p 0x48 q [b] (.built .ok ([byte gone.length, byte left.length] ++ half (look s.results p).overflow
            ++ gone.flatMap resultBytes)))))
    ∧ (takesNew s p 0x58 q [b] →
      (b.toNat < 1 ∨ 4 < b.toNat →
        exec (.fetchEvents p q [b]) s = .next (answered s s p 0x58 q [b] (.built .badArgument [])))
      ∧ (1 ≤ b.toNat → b.toNat ≤ 4 → ∀ gone left, (look s.events p).records = gone ++ left →
        gone.length = min b.toNat (look s.events p).records.length →
        exec (.fetchEvents p q [b]) s = .next (answered s
          { s with events := put s.events p { records := left, lost := 0 } }
          p 0x58 q [b] (.built .ok ([byte gone.length, byte left.length, byte (look s.events p).lost]
            ++ gone.flatMap eventBytes))))))
  ∧ (∀ r : ResultRecord, ∃ flags : Byte,
    resultBytes r
      = half r.sequence.toNat
        ++ [(match r.source with | .slot _ => 0 | .request _ => 1),
          (match r.source with | .slot id => byte id.val | .request tag => tag), byte r.channel.val,
          byte ((match r.resolution with | .bits8 => 0 | .bits10 => 1 | .bits12 => 2)
            + (match r.reference with | .internal => 0 | .external => 4)
            + (match r.averaging with | .one => 0 | .two => 16 | .four => 32 | .eight => 48)), flags]
        ++ half (match r.value with | some v => v | none => 0)
        ++ half (match r.frame with | some f => f.toNat | none => 0)
        ++ half (match r.startPhase with | some e => min 65535 e | none => 0)
        ++ [(match r.lateness with | some n => byte n | none => 0)]
    ∧ flags.getLsbD 0 = r.flags.late ∧ flags.getLsbD 1 = r.flags.missed ∧ flags.getLsbD 2 = r.flags.cancelled
    ∧ flags.getLsbD 3 = r.flags.unschedulable ∧ flags.getLsbD 4 = r.flags.monitorCross
    ∧ flags.getLsbD 5 = false ∧ flags.getLsbD 6 = false ∧ flags.getLsbD 7 = false)
  ∧ ∀ frame : Half,
    (∀ ch, eventBytes { kind := .claimDone ch, frame } = [(0x01 : Byte), 1] ++ half frame.toNat ++ [byte ch.val])
    ∧ (∀ ch cause, eventBytes { kind := .channelLost ch cause, frame }
        = [(0x02 : Byte), 2] ++ half frame.toNat
          ++ [byte ch.val, (match cause with | .released => 0 | .modeChange => 1 | .ownerEnded => 2)])
    ∧ (∀ f : Half, eventBytes { kind := .commitApplied f, frame }
        = [(0x03 : Byte), 2] ++ half frame.toNat ++ half f.toNat)
    ∧ (∀ m sl z v, eventBytes { kind := .monitorCross m sl z v, frame }
        = [(0x04 : Byte), 5] ++ half frame.toNat ++ [byte m.val, byte sl.val,
          (match z with | .unknown => 0 | .below => 1 | .inside => 2 | .above => 3)] ++ half v)
    ∧ (∀ m sl, eventBytes { kind := .monitorDetached m sl, frame }
        = [(0x05 : Byte), 2] ++ half frame.toNat ++ [byte m.val, byte sl.val])
    ∧ (∀ n, eventBytes { kind := .syncLost n, frame } = [(0x06 : Byte), 1] ++ half frame.toNat ++ [byte n])
    ∧ eventBytes { kind := .syncLocked, frame } = [(0x07 : Byte), 0] ++ half frame.toNat
    ∧ (∀ r, eventBytes { kind := .referenceChanged r, frame }
        = [(0x08 : Byte), 1] ++ half frame.toNat ++ [(match r with | .internal => (0 : Byte) | .external => 1)])
    ∧ eventBytes { kind := .timebaseStarted, frame } = [(0x09 : Byte), 0] ++ half frame.toNat
    ∧ eventBytes { kind := .timebaseStopped, frame } = [(0x0A : Byte), 0] ++ half frame.toNat
    ∧ ∀ n, eventBytes { kind := .leaseWarning n, frame } = [(0x0B : Byte), 2] ++ half frame.toNat ++ half n

/-! ### Monitors (chapter 08) -/

/-- ATTACH_MONITOR takes the lowest-numbered free record and fills it; DETACH_MONITOR frees one and takes it from a conversion
in flight that names it; both refused in the cases of their tables, in their order; a slot's Monitor field is the monitor whose
record names the slot (R14, R84, R145, R146, R147, R149). -/
def Obligations.MonitorAttachAndDetach : Prop :=
  (zoneByte .unknown = 0 ∧ zoneByte .below = 1 ∧ zoneByte .inside = 2 ∧ zoneByte .above = 3)
  ∧ (∀ (p : Port) (q : LinkSeq) (b lHi lLo hHi hLo n : Byte) (s : State),
    takesNew s p 0x50 q [b, lHi, lLo, hHi, hLo, n] → isOpen s p = true →
    (24 ≤ b.toNat ∨ 4095 < be16 lHi lLo ∨ 4095 < be16 hHi hLo ∨ be16 hHi hLo < be16 lHi lLo ∨ n.toNat < 1
        ∨ 8 < n.toNat →
      exec (.attachMonitor p q [b, lHi, lLo, hHi, hLo, n]) s
        = .next (answered s s p 0x50 q [b, lHi, lLo, hHi, hLo, n] (.built .badArgument [])))
    ∧ ∀ id : SlotId, b.toNat = id.val → be16 lHi lLo ≤ be16 hHi hLo → be16 hHi hLo ≤ 4095 → 1 ≤ n.toNat → n.toNat ≤ 8 →
      ((∀ sl ∈ s.nextPlan, sl.id ≠ id) →
        exec (.attachMonitor p q [b, lHi, lLo, hHi, hLo, n]) s
          = .next (answered s s p 0x50 q [b, lHi, lLo, hHi, hLo, n] (.built .notFound [])))
      ∧ ∀ sl, s.nextPlan.find? (fun x => x.id == id) = some sl →
        (sl.owner ≠ p →
          exec (.attachMonitor p q [b, lHi, lLo, hHi, hLo, n]) s
            = .next (answered s s p 0x50 q [b, lHi, lLo, hHi, hLo, n] (.built .notOwner [])))
        ∧ (sl.owner = p → (∃ m r, look s.monitors m = some r ∧ r.slot = id) →
          exec (.attachMonitor p q [b, lHi, lLo, hHi, hLo, n]) s
            = .next (answered s s p 0x50 q [b, lHi, lLo, hHi, hLo, n] (.built .inUse [])))
        ∧ (sl.owner = p → (∀ m r, look s.monitors m = some r → r.slot ≠ id) →
          ((∀ m, look s.monitors m ≠ none) →
            exec (.attachMonitor p q [b, lHi, lLo, hHi, hLo, n]) s
              = .next (answered s s p 0x50 q [b, lHi, lLo, hHi, hLo, n] (.built .full [])))
          ∧ ∀ m : MonitorId, look s.monitors m = none → (∀ lower : MonitorId, lower < m → look s.monitors lower ≠ none) →
            exec (.attachMonitor p q [b, lHi, lLo, hHi, hLo, n]) s = .next (answered s
              { s with monitors := put s.monitors m (some
                  { owner := p, slot := id, lowLimit := be16 lHi lLo, highLimit := be16 hHi hLo,
                    filterCount := n.toNat, zone := .unknown, candidate := none, runCount := 0 }) }
              p 0x50 q [b, lHi, lLo, hHi, hLo, n] (.built .ok [byte m.val]))))
  ∧ (∀ (s : State) (id : SlotId) (m : MonitorId), monitorOf s id = some m
    ↔ (∃ r, look s.monitors m = some r ∧ r.slot = id)
      ∧ ∀ (n : MonitorId) (r : Monitor), n < m → look s.monitors n = some r → r.slot ≠ id)
  ∧ ∀ (p : Port) (q : LinkSeq) (b : Byte) (s : State), takesNew s p 0x51 q [b] → isOpen s p = true →
    (8 ≤ b.toNat → exec (.detachMonitor p q [b]) s = .next (answered s s p 0x51 q [b] (.built .badArgument [])))
    ∧ ∀ m : MonitorId, b.toNat = m.val →
      (look s.monitors m = none →
        exec (.detachMonitor p q [b]) s = .next (answered s s p 0x51 q [b] (.built .notFound [])))
      ∧ ∀ r, look s.monitors m = some r →
        (r.owner ≠ p → exec (.detachMonitor p q [b]) s = .next (answered s s p 0x51 q [b] (.built .notOwner [])))
        ∧ (r.owner = p →
          exec (.detachMonitor p q [b]) s = .next (answered s
            { s with
              monitors := put s.monitors m none
              inFlight := s.inFlight.map fun f => if f.monitor = some m then { f with monitor := none } else f }
            p 0x51 q [b] (.built .ok [byte r.slot.val, zoneByte r.zone,
              (match r.candidate with | some z => zoneByte z | none => 0), byte r.runCount])))

/-- Classification of a value: its zone on the 12-bit scale, the run of a candidate, and which confirmed crossings are
reported (R151, R152, R153). -/
def Obligations.MonitorClassification : Prop :=
  (∀ v, scaled .bits12 v = v ∧ scaled .bits10 v = 4 * v ∧ scaled .bits8 v = 16 * v)
  ∧ (∀ (m : Monitor) (v : Nat),
    (v < m.lowLimit → zoneOf m v = .below)
    ∧ (m.lowLimit ≤ v → m.highLimit < v → zoneOf m v = .above)
    ∧ (m.lowLimit ≤ v → v ≤ m.highLimit → zoneOf m v = .inside))
  ∧ ∀ (m : Monitor) (z : Zone),
    (z = m.zone → classified m z = { m with candidate := none, runCount := 0 } ∧ reportsCrossing m z = false)
    ∧ ∀ run, z ≠ m.zone → (m.candidate = some z → run = m.runCount + 1) → (m.candidate ≠ some z → run = 1) →
      (run ≠ m.filterCount →
        classified m z = { m with candidate := some z, runCount := run } ∧ reportsCrossing m z = false)
      ∧ (run = m.filterCount →
        classified m z = { m with zone := z, candidate := none, runCount := 0 }
          ∧ (reportsCrossing m z = true ↔ ¬(m.zone = .unknown ∧ z = .inside)))

/-! ### Laws that every step keeps -/

/-- The state after reset is the one that a power-on reset and its end leave of it, with the values of DeviceResetAndItsEnd, and
it obeys every law of this section. That it follows an ended power-on reset is the model's choice (log 8). -/
def Obligations.ResetIsLawful : Prop :=
  (∃ t, exec (.deviceReset .powerOn) State.reset = .next t ∧ exec .resetEnd t = .next State.reset)
  ∧ queuesBounded State.reset ∧ sequencesConsecutive State.reset ∧ tagsDistinct State.reset
    ∧ subscribersLawful State.reset ∧ referenceChannelLawful State.reset ∧ converterLawful State.reset
    ∧ holderLawful State.reset ∧ inFlightLawful State.reset ∧ plansHeld State.reset ∧ stoppedLawful State.reset
    ∧ timingsLawful State.reset ∧ timebaseCountsLawful State.reset ∧ countsInRange State.reset
    ∧ plansFeasible State.reset ∧ idPoolLawful State.reset ∧ monitorsDistinct State.reset
    ∧ endedHoldNothing State.reset

/-- No step takes a queue, a staging area or a saturating count beyond its capacity, the sequence numbers of each result queue
stay consecutive, up to the one before the next, and no session has one Tag twice in its queue and its conversion in flight
(R90, R113, R133, R160, R181). -/
def Obligations.StepKeepsQueuesLawful : Prop :=
  ∀ s t : State, queuesBounded s → sequencesConsecutive s → tagsDistinct s → step s = .next t →
    queuesBounded t ∧ sequencesConsecutive t ∧ tagsDistinct t

/-- Every step keeps the laws of the channels, the reference and the converter: channel 11 is in REFERENCE exactly out of steady
internal operation, nothing is in flight while the reference settles, a switch waits only for a conversion in flight, and
without a holder the unit is at INTERNAL or heading there; subscriber lists hold at most three sessions, none twice, never the
owner; a conversion ends one occupancy after its start; and every slot of the plans that is not void belongs to a session that
holds its channel in ANALOG (R2, R3, R24, R27, R54, R55, R60, R86). -/
def Obligations.StepKeepsChannelsLawful : Prop :=
  ∀ s t : State, referenceChannelLawful s → converterLawful s → holderLawful s → subscribersLawful s → inFlightLawful s →
    plansHeld s → step s = .next t →
    referenceChannelLawful t ∧ converterLawful t ∧ holderLawful t ∧ subscribersLawful t ∧ inFlightLawful t ∧ plansHeld t

/-- Every step keeps the timebase STOPPED exactly while the active plan holds no slot, both timing records and every staged
timing within their ranges, and every count of the timebase, the settles and the leases within its range (04 4.5, R23, R49,
R63, R64, R72, R73, R76, R168; log 12). -/
def Obligations.StepKeepsCountsLawful : Prop :=
  ∀ s t : State, stoppedLawful s → timingsLawful s → timebaseCountsLawful s → countsInRange s → step s = .next t →
    stoppedLawful t ∧ timingsLawful t ∧ timebaseCountsLawful t ∧ countsInRange t

/-- Every step keeps both plans feasible, each under its own timing record, and each slot id free, reserved once, or naming one
slot (R85, R87, R89). -/
def Obligations.StepKeepsPlansLawful : Prop :=
  ∀ s t : State, plansFeasible s → idPoolLawful s → step s = .next t → plansFeasible t ∧ idPoolLawful t

/-- Every step keeps the law of ended sessions: a session that is not OPEN holds no claim, subscription, staged edit, request,
record, event, note, monitor, role or next-plan slot, and its active-plan slots are void; and no slot has two monitors (R146,
R177). -/
def Obligations.StepKeepsEndedHoldNothing : Prop :=
  ∀ s t : State, endedHoldNothing s → monitorsDistinct s → step s = .next t → endedHoldNothing t ∧ monitorsDistinct t

end
end

