-- ==== Sys2Proof/Laws/State.lean ====
section
/-! SUPPORT. What reading a field gives after a named write: the table lemmas, and one lemma per write and field. -/

namespace Sys2Proof.Machine

/-! ### Tables -/

theorem look_put {α : Type} {n : Nat} (v : Vector α n) (i j : Fin n) (x : α) :
    look (put v i x) j = if i = j then x else look v j := by
  unfold look put
  rw [Vector.getElem_set]
  simp [Fin.ext_iff]

@[simp] theorem look_put_same {α : Type} {n : Nat} (v : Vector α n) (i : Fin n) (x : α) : look (put v i x) i = x := by
  simp [look_put]

theorem look_put_other {α : Type} {n : Nat} (v : Vector α n) {i j : Fin n} (h : j ≠ i) (x : α) :
    look (put v i x) j = look v j := by
  simp [look_put, Ne.symm h]

@[simp] theorem put_put {α : Type} {n : Nat} (v : Vector α n) (i : Fin n) (x y : α) : put (put v i x) i y = put v i y := by
  unfold put
  simp

@[simp] theorem put_look {α : Type} {n : Nat} (v : Vector α n) (i : Fin n) : put v i (look v i) = v := by
  unfold put look
  simp

@[simp] theorem look_replicate {α : Type} {n : Nat} (x : α) (i : Fin n) : look (Vector.replicate n x) i = x := by
  unfold look
  simp

theorem look_map {α β : Type} {n : Nat} (f : α → β) (v : Vector α n) (i : Fin n) : look (v.map f) i = f (look v i) := by
  unfold look
  simp

theorem table_ext {α : Type} {n : Nat} {v w : Vector α n} (h : ∀ i : Fin n, look v i = look w i) : v = w :=
  Vector.ext fun i hi => h ⟨i, hi⟩

/-! ### Fields -/

@[simp] theorem setPort_pending (k : Port) (x : LinkPort) (s : State) : (setPort k x s).pending = s.pending := rfl
@[simp] theorem setPort_clock (k : Port) (x : LinkPort) (s : State) : (setPort k x s).clock = s.clock := rfl
@[simp] theorem setPort_moment (k : Port) (x : LinkPort) (s : State) : (setPort k x s).moment = s.moment := rfl
@[simp] theorem setPort_inReset (k : Port) (x : LinkPort) (s : State) : (setPort k x s).inReset = s.inReset := rfl
@[simp] theorem setPort_resetCause (k : Port) (x : LinkPort) (s : State) : (setPort k x s).resetCause = s.resetCause := rfl
@[simp] theorem setPort_syncInput (k : Port) (x : LinkPort) (s : State) : (setPort k x s).syncInput = s.syncInput := rfl
@[simp] theorem setPort_syncSampledLow (k : Port) (x : LinkPort) (s : State) : (setPort k x s).syncSampledLow = s.syncSampledLow := rfl
@[simp] theorem setPort_syncEdgeSampled (k : Port) (x : LinkPort) (s : State) : (setPort k x s).syncEdgeSampled = s.syncEdgeSampled := rfl
@[simp] theorem setPort_selectInput (k : Port) (x : LinkPort) (s : State) : (setPort k x s).selectInput = s.selectInput := rfl
@[simp] theorem setPort_ports (k : Port) (x : LinkPort) (s : State) : (setPort k x s).ports = put s.ports k x := rfl
@[simp] theorem setPort_sessions (k : Port) (x : LinkPort) (s : State) : (setPort k x s).sessions = s.sessions := rfl
@[simp] theorem setPort_channels (k : Port) (x : LinkPort) (s : State) : (setPort k x s).channels = s.channels := rfl
@[simp] theorem setPort_reference (k : Port) (x : LinkPort) (s : State) : (setPort k x s).reference = s.reference := rfl
@[simp] theorem setPort_timebase (k : Port) (x : LinkPort) (s : State) : (setPort k x s).timebase = s.timebase := rfl
@[simp] theorem setPort_activeTiming (k : Port) (x : LinkPort) (s : State) : (setPort k x s).activeTiming = s.activeTiming := rfl
@[simp] theorem setPort_nextTiming (k : Port) (x : LinkPort) (s : State) : (setPort k x s).nextTiming = s.nextTiming := rfl
@[simp] theorem setPort_activePlan (k : Port) (x : LinkPort) (s : State) : (setPort k x s).activePlan = s.activePlan := rfl
@[simp] theorem setPort_nextPlan (k : Port) (x : LinkPort) (s : State) : (setPort k x s).nextPlan = s.nextPlan := rfl
@[simp] theorem setPort_staging (k : Port) (x : LinkPort) (s : State) : (setPort k x s).staging = s.staging := rfl
@[simp] theorem setPort_noted (k : Port) (x : LinkPort) (s : State) : (setPort k x s).noted = s.noted := rfl
@[simp] theorem setPort_activationCount (k : Port) (x : LinkPort) (s : State) : (setPort k x s).activationCount = s.activationCount := rfl
@[simp] theorem setPort_requests (k : Port) (x : LinkPort) (s : State) : (setPort k x s).requests = s.requests := rfl
@[simp] theorem setPort_inFlight (k : Port) (x : LinkPort) (s : State) : (setPort k x s).inFlight = s.inFlight := rfl
@[simp] theorem setPort_pointer (k : Port) (x : LinkPort) (s : State) : (setPort k x s).pointer = s.pointer := rfl
@[simp] theorem setPort_results (k : Port) (x : LinkPort) (s : State) : (setPort k x s).results = s.results := rfl
@[simp] theorem setPort_latest (k : Port) (x : LinkPort) (s : State) : (setPort k x s).latest = s.latest := rfl
@[simp] theorem setPort_monitors (k : Port) (x : LinkPort) (s : State) : (setPort k x s).monitors = s.monitors := rfl
@[simp] theorem setPort_events (k : Port) (x : LinkPort) (s : State) : (setPort k x s).events = s.events := rfl

@[simp] theorem setSession_pending (k : Port) (x : Session) (s : State) : (setSession k x s).pending = s.pending := rfl
@[simp] theorem setSession_clock (k : Port) (x : Session) (s : State) : (setSession k x s).clock = s.clock := rfl
@[simp] theorem setSession_moment (k : Port) (x : Session) (s : State) : (setSession k x s).moment = s.moment := rfl
@[simp] theorem setSession_inReset (k : Port) (x : Session) (s : State) : (setSession k x s).inReset = s.inReset := rfl
@[simp] theorem setSession_resetCause (k : Port) (x : Session) (s : State) : (setSession k x s).resetCause = s.resetCause := rfl
@[simp] theorem setSession_syncInput (k : Port) (x : Session) (s : State) : (setSession k x s).syncInput = s.syncInput := rfl
@[simp] theorem setSession_syncSampledLow (k : Port) (x : Session) (s : State) : (setSession k x s).syncSampledLow = s.syncSampledLow := rfl
@[simp] theorem setSession_syncEdgeSampled (k : Port) (x : Session) (s : State) : (setSession k x s).syncEdgeSampled = s.syncEdgeSampled := rfl
@[simp] theorem setSession_selectInput (k : Port) (x : Session) (s : State) : (setSession k x s).selectInput = s.selectInput := rfl
@[simp] theorem setSession_ports (k : Port) (x : Session) (s : State) : (setSession k x s).ports = s.ports := rfl
@[simp] theorem setSession_sessions (k : Port) (x : Session) (s : State) : (setSession k x s).sessions = put s.sessions k x := rfl
@[simp] theorem setSession_channels (k : Port) (x : Session) (s : State) : (setSession k x s).channels = s.channels := rfl
@[simp] theorem setSession_reference (k : Port) (x : Session) (s : State) : (setSession k x s).reference = s.reference := rfl
@[simp] theorem setSession_timebase (k : Port) (x : Session) (s : State) : (setSession k x s).timebase = s.timebase := rfl
@[simp] theorem setSession_activeTiming (k : Port) (x : Session) (s : State) : (setSession k x s).activeTiming = s.activeTiming := rfl
@[simp] theorem setSession_nextTiming (k : Port) (x : Session) (s : State) : (setSession k x s).nextTiming = s.nextTiming := rfl
@[simp] theorem setSession_activePlan (k : Port) (x : Session) (s : State) : (setSession k x s).activePlan = s.activePlan := rfl
@[simp] theorem setSession_nextPlan (k : Port) (x : Session) (s : State) : (setSession k x s).nextPlan = s.nextPlan := rfl
@[simp] theorem setSession_staging (k : Port) (x : Session) (s : State) : (setSession k x s).staging = s.staging := rfl
@[simp] theorem setSession_noted (k : Port) (x : Session) (s : State) : (setSession k x s).noted = s.noted := rfl
@[simp] theorem setSession_activationCount (k : Port) (x : Session) (s : State) : (setSession k x s).activationCount = s.activationCount := rfl
@[simp] theorem setSession_requests (k : Port) (x : Session) (s : State) : (setSession k x s).requests = s.requests := rfl
@[simp] theorem setSession_inFlight (k : Port) (x : Session) (s : State) : (setSession k x s).inFlight = s.inFlight := rfl
@[simp] theorem setSession_pointer (k : Port) (x : Session) (s : State) : (setSession k x s).pointer = s.pointer := rfl
@[simp] theorem setSession_results (k : Port) (x : Session) (s : State) : (setSession k x s).results = s.results := rfl
@[simp] theorem setSession_latest (k : Port) (x : Session) (s : State) : (setSession k x s).latest = s.latest := rfl
@[simp] theorem setSession_monitors (k : Port) (x : Session) (s : State) : (setSession k x s).monitors = s.monitors := rfl
@[simp] theorem setSession_events (k : Port) (x : Session) (s : State) : (setSession k x s).events = s.events := rfl

@[simp] theorem setChannel_pending (k : Channel) (x : ChannelRec) (s : State) : (setChannel k x s).pending = s.pending := rfl
@[simp] theorem setChannel_clock (k : Channel) (x : ChannelRec) (s : State) : (setChannel k x s).clock = s.clock := rfl
@[simp] theorem setChannel_moment (k : Channel) (x : ChannelRec) (s : State) : (setChannel k x s).moment = s.moment := rfl
@[simp] theorem setChannel_inReset (k : Channel) (x : ChannelRec) (s : State) : (setChannel k x s).inReset = s.inReset := rfl
@[simp] theorem setChannel_resetCause (k : Channel) (x : ChannelRec) (s : State) : (setChannel k x s).resetCause = s.resetCause := rfl
@[simp] theorem setChannel_syncInput (k : Channel) (x : ChannelRec) (s : State) : (setChannel k x s).syncInput = s.syncInput := rfl
@[simp] theorem setChannel_syncSampledLow (k : Channel) (x : ChannelRec) (s : State) : (setChannel k x s).syncSampledLow = s.syncSampledLow := rfl
@[simp] theorem setChannel_syncEdgeSampled (k : Channel) (x : ChannelRec) (s : State) : (setChannel k x s).syncEdgeSampled = s.syncEdgeSampled := rfl
@[simp] theorem setChannel_selectInput (k : Channel) (x : ChannelRec) (s : State) : (setChannel k x s).selectInput = s.selectInput := rfl
@[simp] theorem setChannel_ports (k : Channel) (x : ChannelRec) (s : State) : (setChannel k x s).ports = s.ports := rfl
@[simp] theorem setChannel_sessions (k : Channel) (x : ChannelRec) (s : State) : (setChannel k x s).sessions = s.sessions := rfl
@[simp] theorem setChannel_channels (k : Channel) (x : ChannelRec) (s : State) : (setChannel k x s).channels = put s.channels k x := rfl
@[simp] theorem setChannel_reference (k : Channel) (x : ChannelRec) (s : State) : (setChannel k x s).reference = s.reference := rfl
@[simp] theorem setChannel_timebase (k : Channel) (x : ChannelRec) (s : State) : (setChannel k x s).timebase = s.timebase := rfl
@[simp] theorem setChannel_activeTiming (k : Channel) (x : ChannelRec) (s : State) : (setChannel k x s).activeTiming = s.activeTiming := rfl
@[simp] theorem setChannel_nextTiming (k : Channel) (x : ChannelRec) (s : State) : (setChannel k x s).nextTiming = s.nextTiming := rfl
@[simp] theorem setChannel_activePlan (k : Channel) (x : ChannelRec) (s : State) : (setChannel k x s).activePlan = s.activePlan := rfl
@[simp] theorem setChannel_nextPlan (k : Channel) (x : ChannelRec) (s : State) : (setChannel k x s).nextPlan = s.nextPlan := rfl
@[simp] theorem setChannel_staging (k : Channel) (x : ChannelRec) (s : State) : (setChannel k x s).staging = s.staging := rfl
@[simp] theorem setChannel_noted (k : Channel) (x : ChannelRec) (s : State) : (setChannel k x s).noted = s.noted := rfl
@[simp] theorem setChannel_activationCount (k : Channel) (x : ChannelRec) (s : State) : (setChannel k x s).activationCount = s.activationCount := rfl
@[simp] theorem setChannel_requests (k : Channel) (x : ChannelRec) (s : State) : (setChannel k x s).requests = s.requests := rfl
@[simp] theorem setChannel_inFlight (k : Channel) (x : ChannelRec) (s : State) : (setChannel k x s).inFlight = s.inFlight := rfl
@[simp] theorem setChannel_pointer (k : Channel) (x : ChannelRec) (s : State) : (setChannel k x s).pointer = s.pointer := rfl
@[simp] theorem setChannel_results (k : Channel) (x : ChannelRec) (s : State) : (setChannel k x s).results = s.results := rfl
@[simp] theorem setChannel_latest (k : Channel) (x : ChannelRec) (s : State) : (setChannel k x s).latest = s.latest := rfl
@[simp] theorem setChannel_monitors (k : Channel) (x : ChannelRec) (s : State) : (setChannel k x s).monitors = s.monitors := rfl
@[simp] theorem setChannel_events (k : Channel) (x : ChannelRec) (s : State) : (setChannel k x s).events = s.events := rfl

@[simp] theorem setStaging_pending (k : Port) (x : List Edit) (s : State) : (setStaging k x s).pending = s.pending := rfl
@[simp] theorem setStaging_clock (k : Port) (x : List Edit) (s : State) : (setStaging k x s).clock = s.clock := rfl
@[simp] theorem setStaging_moment (k : Port) (x : List Edit) (s : State) : (setStaging k x s).moment = s.moment := rfl
@[simp] theorem setStaging_inReset (k : Port) (x : List Edit) (s : State) : (setStaging k x s).inReset = s.inReset := rfl
@[simp] theorem setStaging_resetCause (k : Port) (x : List Edit) (s : State) : (setStaging k x s).resetCause = s.resetCause := rfl
@[simp] theorem setStaging_syncInput (k : Port) (x : List Edit) (s : State) : (setStaging k x s).syncInput = s.syncInput := rfl
@[simp] theorem setStaging_syncSampledLow (k : Port) (x : List Edit) (s : State) : (setStaging k x s).syncSampledLow = s.syncSampledLow := rfl
@[simp] theorem setStaging_syncEdgeSampled (k : Port) (x : List Edit) (s : State) : (setStaging k x s).syncEdgeSampled = s.syncEdgeSampled := rfl
@[simp] theorem setStaging_selectInput (k : Port) (x : List Edit) (s : State) : (setStaging k x s).selectInput = s.selectInput := rfl
@[simp] theorem setStaging_ports (k : Port) (x : List Edit) (s : State) : (setStaging k x s).ports = s.ports := rfl
@[simp] theorem setStaging_sessions (k : Port) (x : List Edit) (s : State) : (setStaging k x s).sessions = s.sessions := rfl
@[simp] theorem setStaging_channels (k : Port) (x : List Edit) (s : State) : (setStaging k x s).channels = s.channels := rfl
@[simp] theorem setStaging_reference (k : Port) (x : List Edit) (s : State) : (setStaging k x s).reference = s.reference := rfl
@[simp] theorem setStaging_timebase (k : Port) (x : List Edit) (s : State) : (setStaging k x s).timebase = s.timebase := rfl
@[simp] theorem setStaging_activeTiming (k : Port) (x : List Edit) (s : State) : (setStaging k x s).activeTiming = s.activeTiming := rfl
@[simp] theorem setStaging_nextTiming (k : Port) (x : List Edit) (s : State) : (setStaging k x s).nextTiming = s.nextTiming := rfl
@[simp] theorem setStaging_activePlan (k : Port) (x : List Edit) (s : State) : (setStaging k x s).activePlan = s.activePlan := rfl
@[simp] theorem setStaging_nextPlan (k : Port) (x : List Edit) (s : State) : (setStaging k x s).nextPlan = s.nextPlan := rfl
@[simp] theorem setStaging_staging (k : Port) (x : List Edit) (s : State) : (setStaging k x s).staging = put s.staging k x := rfl
@[simp] theorem setStaging_noted (k : Port) (x : List Edit) (s : State) : (setStaging k x s).noted = s.noted := rfl
@[simp] theorem setStaging_activationCount (k : Port) (x : List Edit) (s : State) : (setStaging k x s).activationCount = s.activationCount := rfl
@[simp] theorem setStaging_requests (k : Port) (x : List Edit) (s : State) : (setStaging k x s).requests = s.requests := rfl
@[simp] theorem setStaging_inFlight (k : Port) (x : List Edit) (s : State) : (setStaging k x s).inFlight = s.inFlight := rfl
@[simp] theorem setStaging_pointer (k : Port) (x : List Edit) (s : State) : (setStaging k x s).pointer = s.pointer := rfl
@[simp] theorem setStaging_results (k : Port) (x : List Edit) (s : State) : (setStaging k x s).results = s.results := rfl
@[simp] theorem setStaging_latest (k : Port) (x : List Edit) (s : State) : (setStaging k x s).latest = s.latest := rfl
@[simp] theorem setStaging_monitors (k : Port) (x : List Edit) (s : State) : (setStaging k x s).monitors = s.monitors := rfl
@[simp] theorem setStaging_events (k : Port) (x : List Edit) (s : State) : (setStaging k x s).events = s.events := rfl

@[simp] theorem setNoted_pending (k : Port) (x : Bool) (s : State) : (setNoted k x s).pending = s.pending := rfl
@[simp] theorem setNoted_clock (k : Port) (x : Bool) (s : State) : (setNoted k x s).clock = s.clock := rfl
@[simp] theorem setNoted_moment (k : Port) (x : Bool) (s : State) : (setNoted k x s).moment = s.moment := rfl
@[simp] theorem setNoted_inReset (k : Port) (x : Bool) (s : State) : (setNoted k x s).inReset = s.inReset := rfl
@[simp] theorem setNoted_resetCause (k : Port) (x : Bool) (s : State) : (setNoted k x s).resetCause = s.resetCause := rfl
@[simp] theorem setNoted_syncInput (k : Port) (x : Bool) (s : State) : (setNoted k x s).syncInput = s.syncInput := rfl
@[simp] theorem setNoted_syncSampledLow (k : Port) (x : Bool) (s : State) : (setNoted k x s).syncSampledLow = s.syncSampledLow := rfl
@[simp] theorem setNoted_syncEdgeSampled (k : Port) (x : Bool) (s : State) : (setNoted k x s).syncEdgeSampled = s.syncEdgeSampled := rfl
@[simp] theorem setNoted_selectInput (k : Port) (x : Bool) (s : State) : (setNoted k x s).selectInput = s.selectInput := rfl
@[simp] theorem setNoted_ports (k : Port) (x : Bool) (s : State) : (setNoted k x s).ports = s.ports := rfl
@[simp] theorem setNoted_sessions (k : Port) (x : Bool) (s : State) : (setNoted k x s).sessions = s.sessions := rfl
@[simp] theorem setNoted_channels (k : Port) (x : Bool) (s : State) : (setNoted k x s).channels = s.channels := rfl
@[simp] theorem setNoted_reference (k : Port) (x : Bool) (s : State) : (setNoted k x s).reference = s.reference := rfl
@[simp] theorem setNoted_timebase (k : Port) (x : Bool) (s : State) : (setNoted k x s).timebase = s.timebase := rfl
@[simp] theorem setNoted_activeTiming (k : Port) (x : Bool) (s : State) : (setNoted k x s).activeTiming = s.activeTiming := rfl
@[simp] theorem setNoted_nextTiming (k : Port) (x : Bool) (s : State) : (setNoted k x s).nextTiming = s.nextTiming := rfl
@[simp] theorem setNoted_activePlan (k : Port) (x : Bool) (s : State) : (setNoted k x s).activePlan = s.activePlan := rfl
@[simp] theorem setNoted_nextPlan (k : Port) (x : Bool) (s : State) : (setNoted k x s).nextPlan = s.nextPlan := rfl
@[simp] theorem setNoted_staging (k : Port) (x : Bool) (s : State) : (setNoted k x s).staging = s.staging := rfl
@[simp] theorem setNoted_noted (k : Port) (x : Bool) (s : State) : (setNoted k x s).noted = put s.noted k x := rfl
@[simp] theorem setNoted_activationCount (k : Port) (x : Bool) (s : State) : (setNoted k x s).activationCount = s.activationCount := rfl
@[simp] theorem setNoted_requests (k : Port) (x : Bool) (s : State) : (setNoted k x s).requests = s.requests := rfl
@[simp] theorem setNoted_inFlight (k : Port) (x : Bool) (s : State) : (setNoted k x s).inFlight = s.inFlight := rfl
@[simp] theorem setNoted_pointer (k : Port) (x : Bool) (s : State) : (setNoted k x s).pointer = s.pointer := rfl
@[simp] theorem setNoted_results (k : Port) (x : Bool) (s : State) : (setNoted k x s).results = s.results := rfl
@[simp] theorem setNoted_latest (k : Port) (x : Bool) (s : State) : (setNoted k x s).latest = s.latest := rfl
@[simp] theorem setNoted_monitors (k : Port) (x : Bool) (s : State) : (setNoted k x s).monitors = s.monitors := rfl
@[simp] theorem setNoted_events (k : Port) (x : Bool) (s : State) : (setNoted k x s).events = s.events := rfl

@[simp] theorem setRequests_pending (k : Port) (x : List RequestEntry) (s : State) : (setRequests k x s).pending = s.pending := rfl
@[simp] theorem setRequests_clock (k : Port) (x : List RequestEntry) (s : State) : (setRequests k x s).clock = s.clock := rfl
@[simp] theorem setRequests_moment (k : Port) (x : List RequestEntry) (s : State) : (setRequests k x s).moment = s.moment := rfl
@[simp] theorem setRequests_inReset (k : Port) (x : List RequestEntry) (s : State) : (setRequests k x s).inReset = s.inReset := rfl
@[simp] theorem setRequests_resetCause (k : Port) (x : List RequestEntry) (s : State) : (setRequests k x s).resetCause = s.resetCause := rfl
@[simp] theorem setRequests_syncInput (k : Port) (x : List RequestEntry) (s : State) : (setRequests k x s).syncInput = s.syncInput := rfl
@[simp] theorem setRequests_syncSampledLow (k : Port) (x : List RequestEntry) (s : State) : (setRequests k x s).syncSampledLow = s.syncSampledLow := rfl
@[simp] theorem setRequests_syncEdgeSampled (k : Port) (x : List RequestEntry) (s : State) : (setRequests k x s).syncEdgeSampled = s.syncEdgeSampled := rfl
@[simp] theorem setRequests_selectInput (k : Port) (x : List RequestEntry) (s : State) : (setRequests k x s).selectInput = s.selectInput := rfl
@[simp] theorem setRequests_ports (k : Port) (x : List RequestEntry) (s : State) : (setRequests k x s).ports = s.ports := rfl
@[simp] theorem setRequests_sessions (k : Port) (x : List RequestEntry) (s : State) : (setRequests k x s).sessions = s.sessions := rfl
@[simp] theorem setRequests_channels (k : Port) (x : List RequestEntry) (s : State) : (setRequests k x s).channels = s.channels := rfl
@[simp] theorem setRequests_reference (k : Port) (x : List RequestEntry) (s : State) : (setRequests k x s).reference = s.reference := rfl
@[simp] theorem setRequests_timebase (k : Port) (x : List RequestEntry) (s : State) : (setRequests k x s).timebase = s.timebase := rfl
@[simp] theorem setRequests_activeTiming (k : Port) (x : List RequestEntry) (s : State) : (setRequests k x s).activeTiming = s.activeTiming := rfl
@[simp] theorem setRequests_nextTiming (k : Port) (x : List RequestEntry) (s : State) : (setRequests k x s).nextTiming = s.nextTiming := rfl
@[simp] theorem setRequests_activePlan (k : Port) (x : List RequestEntry) (s : State) : (setRequests k x s).activePlan = s.activePlan := rfl
@[simp] theorem setRequests_nextPlan (k : Port) (x : List RequestEntry) (s : State) : (setRequests k x s).nextPlan = s.nextPlan := rfl
@[simp] theorem setRequests_staging (k : Port) (x : List RequestEntry) (s : State) : (setRequests k x s).staging = s.staging := rfl
@[simp] theorem setRequests_noted (k : Port) (x : List RequestEntry) (s : State) : (setRequests k x s).noted = s.noted := rfl
@[simp] theorem setRequests_activationCount (k : Port) (x : List RequestEntry) (s : State) : (setRequests k x s).activationCount = s.activationCount := rfl
@[simp] theorem setRequests_requests (k : Port) (x : List RequestEntry) (s : State) : (setRequests k x s).requests = put s.requests k x := rfl
@[simp] theorem setRequests_inFlight (k : Port) (x : List RequestEntry) (s : State) : (setRequests k x s).inFlight = s.inFlight := rfl
@[simp] theorem setRequests_pointer (k : Port) (x : List RequestEntry) (s : State) : (setRequests k x s).pointer = s.pointer := rfl
@[simp] theorem setRequests_results (k : Port) (x : List RequestEntry) (s : State) : (setRequests k x s).results = s.results := rfl
@[simp] theorem setRequests_latest (k : Port) (x : List RequestEntry) (s : State) : (setRequests k x s).latest = s.latest := rfl
@[simp] theorem setRequests_monitors (k : Port) (x : List RequestEntry) (s : State) : (setRequests k x s).monitors = s.monitors := rfl
@[simp] theorem setRequests_events (k : Port) (x : List RequestEntry) (s : State) : (setRequests k x s).events = s.events := rfl

@[simp] theorem setResults_pending (k : Port) (x : ResultQueue) (s : State) : (setResults k x s).pending = s.pending := rfl
@[simp] theorem setResults_clock (k : Port) (x : ResultQueue) (s : State) : (setResults k x s).clock = s.clock := rfl
@[simp] theorem setResults_moment (k : Port) (x : ResultQueue) (s : State) : (setResults k x s).moment = s.moment := rfl
@[simp] theorem setResults_inReset (k : Port) (x : ResultQueue) (s : State) : (setResults k x s).inReset = s.inReset := rfl
@[simp] theorem setResults_resetCause (k : Port) (x : ResultQueue) (s : State) : (setResults k x s).resetCause = s.resetCause := rfl
@[simp] theorem setResults_syncInput (k : Port) (x : ResultQueue) (s : State) : (setResults k x s).syncInput = s.syncInput := rfl
@[simp] theorem setResults_syncSampledLow (k : Port) (x : ResultQueue) (s : State) : (setResults k x s).syncSampledLow = s.syncSampledLow := rfl
@[simp] theorem setResults_syncEdgeSampled (k : Port) (x : ResultQueue) (s : State) : (setResults k x s).syncEdgeSampled = s.syncEdgeSampled := rfl
@[simp] theorem setResults_selectInput (k : Port) (x : ResultQueue) (s : State) : (setResults k x s).selectInput = s.selectInput := rfl
@[simp] theorem setResults_ports (k : Port) (x : ResultQueue) (s : State) : (setResults k x s).ports = s.ports := rfl
@[simp] theorem setResults_sessions (k : Port) (x : ResultQueue) (s : State) : (setResults k x s).sessions = s.sessions := rfl
@[simp] theorem setResults_channels (k : Port) (x : ResultQueue) (s : State) : (setResults k x s).channels = s.channels := rfl
@[simp] theorem setResults_reference (k : Port) (x : ResultQueue) (s : State) : (setResults k x s).reference = s.reference := rfl
@[simp] theorem setResults_timebase (k : Port) (x : ResultQueue) (s : State) : (setResults k x s).timebase = s.timebase := rfl
@[simp] theorem setResults_activeTiming (k : Port) (x : ResultQueue) (s : State) : (setResults k x s).activeTiming = s.activeTiming := rfl
@[simp] theorem setResults_nextTiming (k : Port) (x : ResultQueue) (s : State) : (setResults k x s).nextTiming = s.nextTiming := rfl
@[simp] theorem setResults_activePlan (k : Port) (x : ResultQueue) (s : State) : (setResults k x s).activePlan = s.activePlan := rfl
@[simp] theorem setResults_nextPlan (k : Port) (x : ResultQueue) (s : State) : (setResults k x s).nextPlan = s.nextPlan := rfl
@[simp] theorem setResults_staging (k : Port) (x : ResultQueue) (s : State) : (setResults k x s).staging = s.staging := rfl
@[simp] theorem setResults_noted (k : Port) (x : ResultQueue) (s : State) : (setResults k x s).noted = s.noted := rfl
@[simp] theorem setResults_activationCount (k : Port) (x : ResultQueue) (s : State) : (setResults k x s).activationCount = s.activationCount := rfl
@[simp] theorem setResults_requests (k : Port) (x : ResultQueue) (s : State) : (setResults k x s).requests = s.requests := rfl
@[simp] theorem setResults_inFlight (k : Port) (x : ResultQueue) (s : State) : (setResults k x s).inFlight = s.inFlight := rfl
@[simp] theorem setResults_pointer (k : Port) (x : ResultQueue) (s : State) : (setResults k x s).pointer = s.pointer := rfl
@[simp] theorem setResults_results (k : Port) (x : ResultQueue) (s : State) : (setResults k x s).results = put s.results k x := rfl
@[simp] theorem setResults_latest (k : Port) (x : ResultQueue) (s : State) : (setResults k x s).latest = s.latest := rfl
@[simp] theorem setResults_monitors (k : Port) (x : ResultQueue) (s : State) : (setResults k x s).monitors = s.monitors := rfl
@[simp] theorem setResults_events (k : Port) (x : ResultQueue) (s : State) : (setResults k x s).events = s.events := rfl

@[simp] theorem setLatest_pending (k : Channel) (x : Option LatestValue) (s : State) : (setLatest k x s).pending = s.pending := rfl
@[simp] theorem setLatest_clock (k : Channel) (x : Option LatestValue) (s : State) : (setLatest k x s).clock = s.clock := rfl
@[simp] theorem setLatest_moment (k : Channel) (x : Option LatestValue) (s : State) : (setLatest k x s).moment = s.moment := rfl
@[simp] theorem setLatest_inReset (k : Channel) (x : Option LatestValue) (s : State) : (setLatest k x s).inReset = s.inReset := rfl
@[simp] theorem setLatest_resetCause (k : Channel) (x : Option LatestValue) (s : State) : (setLatest k x s).resetCause = s.resetCause := rfl
@[simp] theorem setLatest_syncInput (k : Channel) (x : Option LatestValue) (s : State) : (setLatest k x s).syncInput = s.syncInput := rfl
@[simp] theorem setLatest_syncSampledLow (k : Channel) (x : Option LatestValue) (s : State) : (setLatest k x s).syncSampledLow = s.syncSampledLow := rfl
@[simp] theorem setLatest_syncEdgeSampled (k : Channel) (x : Option LatestValue) (s : State) : (setLatest k x s).syncEdgeSampled = s.syncEdgeSampled := rfl
@[simp] theorem setLatest_selectInput (k : Channel) (x : Option LatestValue) (s : State) : (setLatest k x s).selectInput = s.selectInput := rfl
@[simp] theorem setLatest_ports (k : Channel) (x : Option LatestValue) (s : State) : (setLatest k x s).ports = s.ports := rfl
@[simp] theorem setLatest_sessions (k : Channel) (x : Option LatestValue) (s : State) : (setLatest k x s).sessions = s.sessions := rfl
@[simp] theorem setLatest_channels (k : Channel) (x : Option LatestValue) (s : State) : (setLatest k x s).channels = s.channels := rfl
@[simp] theorem setLatest_reference (k : Channel) (x : Option LatestValue) (s : State) : (setLatest k x s).reference = s.reference := rfl
@[simp] theorem setLatest_timebase (k : Channel) (x : Option LatestValue) (s : State) : (setLatest k x s).timebase = s.timebase := rfl
@[simp] theorem setLatest_activeTiming (k : Channel) (x : Option LatestValue) (s : State) : (setLatest k x s).activeTiming = s.activeTiming := rfl
@[simp] theorem setLatest_nextTiming (k : Channel) (x : Option LatestValue) (s : State) : (setLatest k x s).nextTiming = s.nextTiming := rfl
@[simp] theorem setLatest_activePlan (k : Channel) (x : Option LatestValue) (s : State) : (setLatest k x s).activePlan = s.activePlan := rfl
@[simp] theorem setLatest_nextPlan (k : Channel) (x : Option LatestValue) (s : State) : (setLatest k x s).nextPlan = s.nextPlan := rfl
@[simp] theorem setLatest_staging (k : Channel) (x : Option LatestValue) (s : State) : (setLatest k x s).staging = s.staging := rfl
@[simp] theorem setLatest_noted (k : Channel) (x : Option LatestValue) (s : State) : (setLatest k x s).noted = s.noted := rfl
@[simp] theorem setLatest_activationCount (k : Channel) (x : Option LatestValue) (s : State) : (setLatest k x s).activationCount = s.activationCount := rfl
@[simp] theorem setLatest_requests (k : Channel) (x : Option LatestValue) (s : State) : (setLatest k x s).requests = s.requests := rfl
@[simp] theorem setLatest_inFlight (k : Channel) (x : Option LatestValue) (s : State) : (setLatest k x s).inFlight = s.inFlight := rfl
@[simp] theorem setLatest_pointer (k : Channel) (x : Option LatestValue) (s : State) : (setLatest k x s).pointer = s.pointer := rfl
@[simp] theorem setLatest_results (k : Channel) (x : Option LatestValue) (s : State) : (setLatest k x s).results = s.results := rfl
@[simp] theorem setLatest_latest (k : Channel) (x : Option LatestValue) (s : State) : (setLatest k x s).latest = put s.latest k x := rfl
@[simp] theorem setLatest_monitors (k : Channel) (x : Option LatestValue) (s : State) : (setLatest k x s).monitors = s.monitors := rfl
@[simp] theorem setLatest_events (k : Channel) (x : Option LatestValue) (s : State) : (setLatest k x s).events = s.events := rfl

@[simp] theorem setMonitor_pending (k : MonitorId) (x : Option Monitor) (s : State) : (setMonitor k x s).pending = s.pending := rfl
@[simp] theorem setMonitor_clock (k : MonitorId) (x : Option Monitor) (s : State) : (setMonitor k x s).clock = s.clock := rfl
@[simp] theorem setMonitor_moment (k : MonitorId) (x : Option Monitor) (s : State) : (setMonitor k x s).moment = s.moment := rfl
@[simp] theorem setMonitor_inReset (k : MonitorId) (x : Option Monitor) (s : State) : (setMonitor k x s).inReset = s.inReset := rfl
@[simp] theorem setMonitor_resetCause (k : MonitorId) (x : Option Monitor) (s : State) : (setMonitor k x s).resetCause = s.resetCause := rfl
@[simp] theorem setMonitor_syncInput (k : MonitorId) (x : Option Monitor) (s : State) : (setMonitor k x s).syncInput = s.syncInput := rfl
@[simp] theorem setMonitor_syncSampledLow (k : MonitorId) (x : Option Monitor) (s : State) : (setMonitor k x s).syncSampledLow = s.syncSampledLow := rfl
@[simp] theorem setMonitor_syncEdgeSampled (k : MonitorId) (x : Option Monitor) (s : State) : (setMonitor k x s).syncEdgeSampled = s.syncEdgeSampled := rfl
@[simp] theorem setMonitor_selectInput (k : MonitorId) (x : Option Monitor) (s : State) : (setMonitor k x s).selectInput = s.selectInput := rfl
@[simp] theorem setMonitor_ports (k : MonitorId) (x : Option Monitor) (s : State) : (setMonitor k x s).ports = s.ports := rfl
@[simp] theorem setMonitor_sessions (k : MonitorId) (x : Option Monitor) (s : State) : (setMonitor k x s).sessions = s.sessions := rfl
@[simp] theorem setMonitor_channels (k : MonitorId) (x : Option Monitor) (s : State) : (setMonitor k x s).channels = s.channels := rfl
@[simp] theorem setMonitor_reference (k : MonitorId) (x : Option Monitor) (s : State) : (setMonitor k x s).reference = s.reference := rfl
@[simp] theorem setMonitor_timebase (k : MonitorId) (x : Option Monitor) (s : State) : (setMonitor k x s).timebase = s.timebase := rfl
@[simp] theorem setMonitor_activeTiming (k : MonitorId) (x : Option Monitor) (s : State) : (setMonitor k x s).activeTiming = s.activeTiming := rfl
@[simp] theorem setMonitor_nextTiming (k : MonitorId) (x : Option Monitor) (s : State) : (setMonitor k x s).nextTiming = s.nextTiming := rfl
@[simp] theorem setMonitor_activePlan (k : MonitorId) (x : Option Monitor) (s : State) : (setMonitor k x s).activePlan = s.activePlan := rfl
@[simp] theorem setMonitor_nextPlan (k : MonitorId) (x : Option Monitor) (s : State) : (setMonitor k x s).nextPlan = s.nextPlan := rfl
@[simp] theorem setMonitor_staging (k : MonitorId) (x : Option Monitor) (s : State) : (setMonitor k x s).staging = s.staging := rfl
@[simp] theorem setMonitor_noted (k : MonitorId) (x : Option Monitor) (s : State) : (setMonitor k x s).noted = s.noted := rfl
@[simp] theorem setMonitor_activationCount (k : MonitorId) (x : Option Monitor) (s : State) : (setMonitor k x s).activationCount = s.activationCount := rfl
@[simp] theorem setMonitor_requests (k : MonitorId) (x : Option Monitor) (s : State) : (setMonitor k x s).requests = s.requests := rfl
@[simp] theorem setMonitor_inFlight (k : MonitorId) (x : Option Monitor) (s : State) : (setMonitor k x s).inFlight = s.inFlight := rfl
@[simp] theorem setMonitor_pointer (k : MonitorId) (x : Option Monitor) (s : State) : (setMonitor k x s).pointer = s.pointer := rfl
@[simp] theorem setMonitor_results (k : MonitorId) (x : Option Monitor) (s : State) : (setMonitor k x s).results = s.results := rfl
@[simp] theorem setMonitor_latest (k : MonitorId) (x : Option Monitor) (s : State) : (setMonitor k x s).latest = s.latest := rfl
@[simp] theorem setMonitor_monitors (k : MonitorId) (x : Option Monitor) (s : State) : (setMonitor k x s).monitors = put s.monitors k x := rfl
@[simp] theorem setMonitor_events (k : MonitorId) (x : Option Monitor) (s : State) : (setMonitor k x s).events = s.events := rfl

@[simp] theorem setEvents_pending (k : Port) (x : EventQueue) (s : State) : (setEvents k x s).pending = s.pending := rfl
@[simp] theorem setEvents_clock (k : Port) (x : EventQueue) (s : State) : (setEvents k x s).clock = s.clock := rfl
@[simp] theorem setEvents_moment (k : Port) (x : EventQueue) (s : State) : (setEvents k x s).moment = s.moment := rfl
@[simp] theorem setEvents_inReset (k : Port) (x : EventQueue) (s : State) : (setEvents k x s).inReset = s.inReset := rfl
@[simp] theorem setEvents_resetCause (k : Port) (x : EventQueue) (s : State) : (setEvents k x s).resetCause = s.resetCause := rfl
@[simp] theorem setEvents_syncInput (k : Port) (x : EventQueue) (s : State) : (setEvents k x s).syncInput = s.syncInput := rfl
@[simp] theorem setEvents_syncSampledLow (k : Port) (x : EventQueue) (s : State) : (setEvents k x s).syncSampledLow = s.syncSampledLow := rfl
@[simp] theorem setEvents_syncEdgeSampled (k : Port) (x : EventQueue) (s : State) : (setEvents k x s).syncEdgeSampled = s.syncEdgeSampled := rfl
@[simp] theorem setEvents_selectInput (k : Port) (x : EventQueue) (s : State) : (setEvents k x s).selectInput = s.selectInput := rfl
@[simp] theorem setEvents_ports (k : Port) (x : EventQueue) (s : State) : (setEvents k x s).ports = s.ports := rfl
@[simp] theorem setEvents_sessions (k : Port) (x : EventQueue) (s : State) : (setEvents k x s).sessions = s.sessions := rfl
@[simp] theorem setEvents_channels (k : Port) (x : EventQueue) (s : State) : (setEvents k x s).channels = s.channels := rfl
@[simp] theorem setEvents_reference (k : Port) (x : EventQueue) (s : State) : (setEvents k x s).reference = s.reference := rfl
@[simp] theorem setEvents_timebase (k : Port) (x : EventQueue) (s : State) : (setEvents k x s).timebase = s.timebase := rfl
@[simp] theorem setEvents_activeTiming (k : Port) (x : EventQueue) (s : State) : (setEvents k x s).activeTiming = s.activeTiming := rfl
@[simp] theorem setEvents_nextTiming (k : Port) (x : EventQueue) (s : State) : (setEvents k x s).nextTiming = s.nextTiming := rfl
@[simp] theorem setEvents_activePlan (k : Port) (x : EventQueue) (s : State) : (setEvents k x s).activePlan = s.activePlan := rfl
@[simp] theorem setEvents_nextPlan (k : Port) (x : EventQueue) (s : State) : (setEvents k x s).nextPlan = s.nextPlan := rfl
@[simp] theorem setEvents_staging (k : Port) (x : EventQueue) (s : State) : (setEvents k x s).staging = s.staging := rfl
@[simp] theorem setEvents_noted (k : Port) (x : EventQueue) (s : State) : (setEvents k x s).noted = s.noted := rfl
@[simp] theorem setEvents_activationCount (k : Port) (x : EventQueue) (s : State) : (setEvents k x s).activationCount = s.activationCount := rfl
@[simp] theorem setEvents_requests (k : Port) (x : EventQueue) (s : State) : (setEvents k x s).requests = s.requests := rfl
@[simp] theorem setEvents_inFlight (k : Port) (x : EventQueue) (s : State) : (setEvents k x s).inFlight = s.inFlight := rfl
@[simp] theorem setEvents_pointer (k : Port) (x : EventQueue) (s : State) : (setEvents k x s).pointer = s.pointer := rfl
@[simp] theorem setEvents_results (k : Port) (x : EventQueue) (s : State) : (setEvents k x s).results = s.results := rfl
@[simp] theorem setEvents_latest (k : Port) (x : EventQueue) (s : State) : (setEvents k x s).latest = s.latest := rfl
@[simp] theorem setEvents_monitors (k : Port) (x : EventQueue) (s : State) : (setEvents k x s).monitors = s.monitors := rfl
@[simp] theorem setEvents_events (k : Port) (x : EventQueue) (s : State) : (setEvents k x s).events = put s.events k x := rfl

end Sys2Proof.Machine
end

