-- ==== Sys2Proof/Laws/Frames.lean ====
section
/-! SUPPORT. Which fields each shared operation touches, said once: the result is the state with those fields replaced. -/

namespace Sys2Proof.Machine

/-! ### Queues -/

theorem offerResults_frame (os : List (ResultRecord × Port)) (s : State) :
    offerResults os s = { s with results := (offerResults os s).results } := rfl

theorem offerEvents_frame (os : List (EventKind × Port)) (s : State) :
    offerEvents os s = { s with events := (offerEvents os s).events } := rfl

theorem broadcast_frame (k : EventKind) (s : State) : broadcast k s = { s with events := (broadcast k s).events } := rfl

theorem broadcasts_frame (ks : List EventKind) (s : State) :
    ks.foldl (fun x k => broadcast k x) s = { s with events := (ks.foldl (fun x k => broadcast k x) s).events } := by
  induction ks generalizing s with
  | nil => rfl
  | cons k ks ih => rw [List.foldl_cons, ih, broadcast_frame]

theorem removeEntries_frame (f : ResultFlags) (pick : RequestEntry → Bool) (ps : List Port) (s : State) :
    removeEntries f pick ps s
      = { s with
          requests := (removeEntries f pick ps s).requests
          results := (removeEntries f pick ps s).results } := rfl

theorem withdrawUsers_frame (ch : Channel) (c : LossCause) (o : Port) (subs : List Port) (s : State) :
    withdrawUsers ch c o subs s
      = { s with
          requests := (withdrawUsers ch c o subs s).requests
          results := (withdrawUsers ch c o subs s).results
          events := (withdrawUsers ch c o subs s).events } := rfl

/-! ### The arbiter -/

theorem offerOnDemand_frame (ps : List Port) (s : State) :
    offerOnDemand s ps
      = { s with
          inFlight := (offerOnDemand s ps).inFlight
          requests := (offerOnDemand s ps).requests
          pointer := (offerOnDemand s ps).pointer } := by
  induction ps with
  | nil => rfl
  | cons p ps ih =>
    unfold offerOnDemand
    cases h : grantableHead s p with
    | none => exact ih
    | some x => rfl

theorem arbitrate_frame (s : State) :
    arbitrate s
      = { s with
          inFlight := (arbitrate s).inFlight
          activePlan := (arbitrate s).activePlan
          requests := (arbitrate s).requests
          pointer := (arbitrate s).pointer } := by
  unfold arbitrate
  split
  · rfl
  · split
    · rfl
    · rw [offerOnDemand_frame]

theorem arbitrateIf_frame (b : Bool) (s : State) :
    arbitrateIf b s
      = { s with
          inFlight := (arbitrateIf b s).inFlight
          activePlan := (arbitrateIf b s).activePlan
          requests := (arbitrateIf b s).requests
          pointer := (arbitrateIf b s).pointer } := by
  cases b
  · rfl
  · exact arbitrate_frame s

/-! ### Delivery and monitors -/

theorem freeMonitor_frame (m : MonitorId) (s : State) :
    freeMonitor m s
      = { s with monitors := (freeMonitor m s).monitors, inFlight := (freeMonitor m s).inFlight } := rfl

theorem detachLeaving_frame (s : State) (id : SlotId) :
    detachLeaving s id
      = { s with
          monitors := (detachLeaving s id).monitors
          inFlight := (detachLeaving s id).inFlight
          events := (detachLeaving s id).events } := by
  unfold detachLeaving
  split
  · rfl
  · split <;> rfl

theorem detachLeavings_frame (ids : List SlotId) (s : State) :
    ids.foldl detachLeaving s
      = { s with
          monitors := (ids.foldl detachLeaving s).monitors
          inFlight := (ids.foldl detachLeaving s).inFlight
          events := (ids.foldl detachLeaving s).events } := by
  induction ids generalizing s with
  | nil => rfl
  | cons i ids ih => rw [List.foldl_cons, ih, detachLeaving_frame]

theorem monitorStage_frame (c : InFlight) (s : State) :
    monitorStage c s
      = { s with monitors := (monitorStage c s).monitors, events := (monitorStage c s).events } := by
  unfold monitorStage
  cases namedMonitor s c with
  | none => rfl
  | some x => rfl

theorem latestStage_frame (c : InFlight) (s : State) :
    latestStage c s = { s with latest := (latestStage c s).latest } := by
  unfold latestStage
  split <;> rfl

theorem offerStage_frame (c : InFlight) (cross : Bool) (s : State) :
    offerStage c cross s = { s with results := (offerStage c cross s).results } := rfl

theorem deliver_frame (c : InFlight) (s : State) :
    deliver c s
      = { s with
          monitors := (deliver c s).monitors
          events := (deliver c s).events
          latest := (deliver c s).latest
          results := (deliver c s).results } := by
  unfold deliver
  rw [offerStage_frame, latestStage_frame, monitorStage_frame]

/-! ### The reference -/

theorem takeSwitch_frame (r : Ref) (s : State) :
    takeSwitch r s = { s with reference := (takeSwitch r s).reference, channels := (takeSwitch r s).channels } := by
  cases r <;> rfl

theorem withdrawSwitch_frame (r : Ref) (s : State) :
    withdrawSwitch r s
      = { s with reference := (withdrawSwitch r s).reference, channels := (withdrawSwitch r s).channels } := by
  cases r <;> rfl

theorem beginSettle_frame (s : State) : beginSettle s = { s with reference := (beginSettle s).reference } := by
  unfold beginSettle
  split <;> rfl

theorem loseHolder_frame (s : State) :
    loseHolder s = { s with reference := (loseHolder s).reference, channels := (loseHolder s).channels } := by
  unfold loseHolder revertSwitch
  split <;> rfl

/-! ### The timebase and the plans -/

theorem phaseArrival_frame (s : State) :
    phaseArrival s
      = { s with activePlan := (phaseArrival s).activePlan, results := (phaseArrival s).results } := by
  unfold phaseArrival
  split
  · rfl
  · dsimp only
    split <;> rfl

theorem startFrame0_frame (st : TimebaseState) (also : List EventKind) (s : State) :
    startFrame0 st also s
      = { s with
          timebase := (startFrame0 st also s).timebase
          activePlan := (startFrame0 st also s).activePlan
          events := (startFrame0 st also s).events
          results := (startFrame0 st also s).results } := by
  unfold startFrame0
  dsimp only
  rw [phaseArrival_frame, broadcasts_frame, broadcast_frame]

theorem replacePlan_frame (s : State) :
    replacePlan s
      = { s with
          activePlan := (replacePlan s).activePlan
          activeTiming := (replacePlan s).activeTiming
          inFlight := (replacePlan s).inFlight
          monitors := (replacePlan s).monitors
          events := (replacePlan s).events } := by
  unfold replacePlan
  dsimp only
  rw [← List.foldl_map (f := fun a : ActiveSlot => a.slot.id) (g := detachLeaving), detachLeavings_frame]

theorem recheck_frame (s : State) :
    recheck s = { s with requests := (recheck s).requests, results := (recheck s).results } := rfl

theorem planChanged_frame (b : Bool) (s : State) :
    planChanged b s
      = { s with
          activationCount := (planChanged b s).activationCount
          requests := (planChanged b s).requests
          results := (planChanged b s).results } := by
  cases b <;> rfl

/-! ### Frames and steps -/

/-- The front command of the queue is the command that a step runs. -/
theorem step_front (c : Instr) (rest : List Instr) (s : State) (h : s.pending = c :: rest) :
    step s = exec c { s with pending := rest } := by
  unfold step
  rw [h]

end Sys2Proof.Machine
end

