-- ==== Sys2Proof/Laws/Queues.lean ====
section
/-! SUPPORT. Everything the shared queue operations and the arbiter can do, said once: what one queue holds after a list of
offers, how long a queue can grow, and the four outcomes of a decision. -/

namespace Sys2Proof.Machine

/-! ### One queue after offers -/

/-- A result queue after a list of offers has taken those to its own session, in order, and none unless it is OPEN. -/
theorem look_offeredResults (ss : Vector Session 4) (os : List (ResultRecord × Port)) (rs : Vector ResultQueue 4)
    (x : Port) :
    look (os.foldl (offeredResult ss) rs) x
      = match (look ss x).lease with
        | some l => (os.filter fun o => o.2 == x).foldl (fun q o => enqueue l.policy o.1 q) (look rs x)
        | none => look rs x := by
  induction os generalizing rs with
  | nil => simp; split <;> rfl
  | cons o os ih =>
    rw [List.foldl_cons, ih]
    by_cases hx : o.2 = x
    · subst hx
      cases hl : (look ss o.2).lease with
      | none => simp [offeredResult, hl]
      | some l => simp [offeredResult, hl]
    · cases ho : (look ss o.2).lease <;> simp [offeredResult, ho, hx, look_put_other, Ne.symm hx]

/-- An event queue after a list of offers has taken those to its own session, in order, and none unless it is OPEN. -/
theorem look_offeredEvents (ss : Vector Session 4) (f : Half) (os : List (EventKind × Port)) (qs : Vector EventQueue 4)
    (x : Port) :
    look (os.foldl (offeredEvent ss f) qs) x
      = if (look ss x).lease.isSome = true then
          (os.filter fun o => o.2 == x).foldl (fun q o => enqueueEvent { kind := o.1, frame := f } q) (look qs x)
        else look qs x := by
  induction os generalizing qs with
  | nil => simp
  | cons o os ih =>
    rw [List.foldl_cons, ih]
    by_cases hx : o.2 = x
    · subst hx
      by_cases hl : (look ss o.2).lease.isSome = true <;> simp [offeredEvent, hl]
    · by_cases ho : (look ss o.2).lease.isSome = true <;> simp [offeredEvent, ho, hx, look_put_other, Ne.symm hx]

/-- A broadcast puts one event into the queue of every OPEN session. -/
theorem look_broadcast (k : EventKind) (s : State) (x : Port) :
    look (broadcast k s).events x
      = if isOpen s x = true then enqueueEvent { kind := k, frame := s.timebase.frameNumber } (look s.events x)
        else look s.events x := by
  have h : (broadcast k s).events
      = (allPorts.map fun p => (k, p)).foldl (offeredEvent s.sessions s.timebase.frameNumber) s.events := rfl
  rw [h, look_offeredEvents]
  unfold isOpen
  match x with
  | 0 => rfl
  | 1 => rfl
  | 2 => rfl
  | 3 => rfl

/-! ### Capacities -/

theorem enqueue_length (policy : OverflowPolicy) (r : ResultRecord) (q : ResultQueue) (h : q.records.length ≤ 32) :
    (enqueue policy r q).records.length ≤ 32 := by
  unfold enqueue
  split
  · simp; omega
  · cases policy
    · exact h
    · simp; omega

theorem enqueue_overflow (policy : OverflowPolicy) (r : ResultRecord) (q : ResultQueue) (h : q.overflow ≤ 65535) :
    (enqueue policy r q).overflow ≤ 65535 := by
  unfold enqueue saturate
  split
  · exact h
  · cases policy <;> simp

theorem enqueueEvent_length (e : EventRecord) (q : EventQueue) (h : q.records.length ≤ 16) :
    (enqueueEvent e q).records.length ≤ 16 := by
  unfold enqueueEvent
  split
  · simp; omega
  · exact h

theorem enqueueEvent_lost (e : EventRecord) (q : EventQueue) (h : q.lost ≤ 255) : (enqueueEvent e q).lost ≤ 255 := by
  unfold enqueueEvent saturate
  split
  · exact h
  · simp

/-- A withdrawal never lengthens a request queue. -/
theorem look_withoutEntries (pick : RequestEntry → Bool) (ps : List Port) (v : Vector (List RequestEntry) 4) (x : Port) :
    look (ps.foldl (withoutEntries pick) v) x
      = if x ∈ ps then (look v x).filter (fun e => !pick e) else look v x := by
  induction ps generalizing v with
  | nil => simp
  | cons p ps ih =>
    rw [List.foldl_cons, ih]
    by_cases hp : p = x
    · subst hp
      by_cases hm : p ∈ ps <;> simp [withoutEntries, hm]
    · by_cases hm : x ∈ ps <;> simp [withoutEntries, hm, look_put_other, Ne.symm hp]

/-- Some queue has lost its head exactly where a head no longer stands at the head of its queue (01 R15). -/
theorem headLeft_iff (before after : Vector (List RequestEntry) 4) :
    headLeft before after = true ↔ ∃ (p : Port) (e : RequestEntry), (look before p).head? = some e
      ∧ (look after p).head? ≠ some e := by
  have hm : ∀ p : Port, p ∈ allPorts := by decide
  unfold headLeft
  rw [List.any_eq_true]
  constructor
  · rintro ⟨p, -, h⟩
    cases hb : (look before p).head? with
    | none => simp [hb] at h
    | some e => exact ⟨p, e, hb, fun ha => by rw [hb, ha] at h; simp at h⟩
  · rintro ⟨p, e, hb, ha⟩
    exact ⟨p, hm p, by rw [hb]; simpa [bne_iff_ne] using Ne.symm ha⟩

/-! ### Decisions -/

/-- What an offer of the converter to the heads of some ports can do: nothing, or the grant of one head that fits. -/
theorem offerOnDemand_cases (ps : List Port) (s : State) :
    offerOnDemand s ps = s
      ∨ ∃ p e rest, look s.requests p = e :: rest ∧ isOpen s p = true
          ∧ fits s (occupancy e.resolution e.sampleTicks e.averaging) = true
          ∧ offerOnDemand s ps = grantRequest p e rest s := by
  induction ps with
  | nil => exact Or.inl rfl
  | cons p ps ih =>
    unfold offerOnDemand
    cases hg : grantableHead s p with
    | none => exact ih
    | some x =>
      obtain ⟨e, rest⟩ := x
      refine Or.inr ⟨p, e, rest, ?_⟩
      unfold grantableHead at hg
      split at hg
      · cases hg
      · split at hg
        · rename_i h1 h2
          simp only [Option.some.injEq, Prod.mk.injEq] at hg
          obtain ⟨rfl, rfl⟩ := hg
          rw [Bool.and_eq_true] at h2
          exact ⟨h1, h2.1, h2.2, rfl⟩
        · cases hg

/-- The outcomes of a decision: nothing; or, the converter being IDLE and the reference steady, the grant of a PENDING slot
or of the head of one queue. -/
theorem arbitrate_cases (s : State) :
    arbitrate s = s
      ∨ (s.inFlight = none ∧ s.reference.state.isSteady = true
          ∧ ((∃ a ∈ s.activePlan, a.progress = .pending ∧ arbitrate s = grantSlot a s)
            ∨ ∃ p e rest, look s.requests p = e :: rest ∧ isOpen s p = true
                ∧ fits s (occupancy e.resolution e.sampleTicks e.averaging) = true
                ∧ arbitrate s = grantRequest p e rest s)) := by
  unfold arbitrate
  by_cases h : (s.inFlight.isSome || !s.reference.state.isSteady) = true
  · rw [if_pos h]
    exact Or.inl rfl
  · rw [if_neg h]
    have h1 : s.inFlight = none ∧ s.reference.state.isSteady = true := by simpa using h
    split
    · rename_i a ha
      exact Or.inr ⟨h1.1, h1.2, Or.inl ⟨a, List.mem_of_find?_eq_some ha, by simpa using List.find?_some ha, rfl⟩⟩
    · rcases offerOnDemand_cases (offerOrder s.pointer) s with hn | hg
      · exact Or.inl hn
      · exact Or.inr ⟨h1.1, h1.2, Or.inr hg⟩

end Sys2Proof.Machine
end

