-- ==== Sys2Proof/Laws/Boundary.lean ====
section
/-! SUPPORT. What the shared operations of boundaries and applies leave, said once in the words of Safety.lean: freed monitors,
the plan replaced, and the phase-0 arrival. -/

namespace Sys2Proof.Machine

/-! ### Monitors of leaving slots -/

/-- The monitor of a slot is one whose record names the slot (05 R84, 08 R146). -/
theorem monitorOf_names {s : State} {id : SlotId} {m : MonitorId} (h : monitorOf s id = some m) :
    ∃ r, look s.monitors m = some r ∧ r.slot = id := by
  have hm := List.find?_some h
  cases hr : look s.monitors m with
  | none => simp [hr] at hm
  | some r => exact ⟨r, rfl, by simpa [hr] using hm⟩

/-- Freeing the monitor of one slot leaves the monitor of every other slot. -/
theorem monitorOf_freed {s t : State} {id x : SlotId} {m : MonitorId} {r : Monitor} (hr : look s.monitors m = some r)
    (hs : r.slot = id) (hx : x ≠ id) (ht : t.monitors = put s.monitors m none) : monitorOf t x = monitorOf s x := by
  unfold monitorOf
  congr 1
  funext n
  rw [ht, look_put]
  by_cases hn : m = n
  · subst hn
    simp [hr, hs, Ne.symm hx]
  · simp [hn]

/-- A conversion in flight after some monitors have been freed (01 R14). -/
theorem filter_none_freed (c : InFlight) :
    ({ c with monitor := c.monitor.filter fun m => !([] : List MonitorId).contains m } : InFlight) = c := by
  obtain ⟨_, _, _, _, _, _, _, _, _, _, _, _, m, _, _, _, _⟩ := c
  cases m <;> rfl

/-- A conversion in flight loses the Monitor field to one freed monitor after another (01 R14). -/
theorem freed_then_filtered (m : MonitorId) (l : List MonitorId) (c : InFlight) :
    ({ (if c.monitor = some m then { c with monitor := none } else c) with
        monitor := (if c.monitor = some m then { c with monitor := none } else c).monitor.filter fun k => !l.contains k }
      : InFlight)
      = { c with monitor := c.monitor.filter fun k => !(m :: l).contains k } := by
  obtain ⟨_, _, _, _, _, _, _, _, _, _, _, _, k, _, _, _, _⟩ := c
  cases k with
  | none => rfl
  | some k =>
    by_cases hk : k = m
    · subst hk
      simp [Option.filter]
    · simp [hk, Option.filter]

/-- The monitors of leaving slots are freed in the order of the slots (01 R14, 08 R155). -/
theorem detachLeavings_monitorsFreed (ids : List SlotId) (s : State) (h : ids.Nodup) :
    monitorsFreed ids s (ids.foldl detachLeaving s) := by
  induction ids generalizing s with
  | nil =>
    refine ⟨?_, fun m => by simp⟩
    have hf : (fun c : InFlight => { c with monitor := c.monitor.filter fun m => !([] : List MonitorId).contains m }) = id :=
      funext filter_none_freed
    simp only [List.filterMap_nil, List.foldl_nil, hf, Option.map_id, id]
  | cons i ids ih =>
    obtain ⟨hi, hn⟩ := List.nodup_cons.mp h
    rw [List.foldl_cons]
    cases hm : monitorOf s i with
    | none =>
      have hd : detachLeaving s i = s := by simp [detachLeaving, hm]
      have := ih s hn
      rw [hd]
      simpa only [monitorsFreed, List.filterMap_cons, hm, Option.bind_none] using this
    | some m =>
      obtain ⟨r, hr, hs⟩ := monitorOf_names hm
      have hd : detachLeaving s i = offerEvents [(.monitorDetached m i, r.owner)] (freeMonitor m s) := by
        simp [detachLeaving, hm, hr]
      obtain ⟨he, hw⟩ := ih (detachLeaving s i) hn
      generalize ids.foldl detachLeaving (detachLeaving s i) = w at he hw ⊢
      rw [hd] at he hw
      have hx : ∀ x ∈ ids, monitorOf (offerEvents [(.monitorDetached m i, r.owner)] (freeMonitor m s)) x = monitorOf s x :=
        fun x hx => monitorOf_freed hr hs (fun e => hi (e ▸ hx)) rfl
      have hl : ids.filterMap (monitorOf (offerEvents [(.monitorDetached m i, r.owner)] (freeMonitor m s)))
          = ids.filterMap (monitorOf s) := List.filterMap_congr hx
      have ho : ∀ x ∈ ids, ∀ k, monitorOf s x = some k → k ≠ m := by
        intro x hxi k hk e
        obtain ⟨a, ha, hb⟩ := monitorOf_names hk
        rw [e, hr] at ha
        cases ha
        exact hi (hs ▸ hb ▸ hxi)
      have hev : ids.filterMap (fun id =>
            (monitorOf (offerEvents [(.monitorDetached m i, r.owner)] (freeMonitor m s)) id).bind fun k =>
              (look (offerEvents [(.monitorDetached m i, r.owner)] (freeMonitor m s)).monitors k).map fun a =>
                (EventKind.monitorDetached k id, a.owner))
          = ids.filterMap fun id => (monitorOf s id).bind fun k =>
              (look s.monitors k).map fun a => (EventKind.monitorDetached k id, a.owner) := by
        refine List.filterMap_congr fun x hxi => ?_
        rw [hx x hxi]
        cases hk : monitorOf s x with
        | none => rfl
        | some k =>
          have : look (put s.monitors m none) k = look s.monitors k := look_put_other _ (ho x hxi k hk) _
          simp only [Option.bind_some]
          exact congrArg _ this
      rw [hl] at he hw
      rw [hev] at he
      refine ⟨?_, fun k => ?_⟩
      · have hf : ((freeMonitor m s).inFlight.map fun c => { c with
              monitor := c.monitor.filter fun k => !(ids.filterMap (monitorOf s)).contains k })
            = s.inFlight.map fun c => { c with
              monitor := c.monitor.filter fun k => !((i :: ids).filterMap (monitorOf s)).contains k } := by
          unfold freeMonitor
          cases s.inFlight with
          | none => rfl
          | some c =>
            simp only [Option.map_some, List.filterMap_cons, hm]
            congr 1
            exact freed_then_filtered m _ c
        have he' := he
        rw [show (offerEvents [(EventKind.monitorDetached m i, r.owner)] (freeMonitor m s)).inFlight
          = (freeMonitor m s).inFlight from rfl, hf] at he'
        have hc : (i :: ids).filterMap (fun id => (monitorOf s id).bind fun k =>
              (look s.monitors k).map fun a => (EventKind.monitorDetached k id, a.owner))
            = (EventKind.monitorDetached m i, r.owner) :: ids.filterMap (fun id => (monitorOf s id).bind fun k =>
              (look s.monitors k).map fun a => (EventKind.monitorDetached k id, a.owner)) := by
          simp [hm, hr]
        rw [hc]
        exact he'
      · rw [hw k]
        simp only [List.filterMap_cons, hm]
        have : look (offerEvents [(EventKind.monitorDetached m i, r.owner)] (freeMonitor m s)).monitors k
            = look (put s.monitors m none) k := rfl
        rw [this, look_put]
        by_cases hk : m = k
        · subst hk
          simp
        · simp [hk, Ne.symm hk]

/-! ### The plan replaced -/

/-- The slots whose monitors a replacement of the plan frees: those that leave and are not void (05 R99, R102). -/
theorem leavingSlots_live (s : State) :
    (leavingSlots s).filter (fun a => !a.void)
      = s.activePlan.filter fun a => !a.void && !(s.nextPlan.any fun x => x.id == a.slot.id) := by
  unfold leavingSlots inNext
  rw [List.filter_filter]
  congr 1
  funext a
  cases a.void <;> simp

/-- A conversion in flight keeps its slot exactly where the slot stays in the plan and is not void (05 R99, R102; 01 R11). -/
theorem slotStands_replaced (s : State) (stands : Bool) (id : SlotId) :
    (stands && inNext s id && !(leavingSlots s).any fun a => a.slot.id == id)
      = (stands && (s.nextPlan.any fun x => x.id == id) && !(s.activePlan.any fun a => a.void && a.slot.id == id)) := by
  unfold leavingSlots inNext
  cases hn : s.nextPlan.any fun x => x.id == id with
  | false => simp
  | true =>
    congr 2
    rw [List.any_filter]
    congr 1
    funext a
    by_cases ha : a.slot.id = id
    · subst ha
      simp [hn]
    · have hb : (a.slot.id == id) = false := beq_false_of_ne ha
      rw [hb, Bool.and_false, Bool.and_false]

/-- Replacing the plan frees the monitors first; then both plans agree. -/
theorem replacePlan_eq (s d : State)
    (hd : d = ((s.activePlan.filter fun a => !a.void && !(s.nextPlan.any fun x => x.id == a.slot.id)).map
        fun a => a.slot.id).foldl detachLeaving s) :
    replacePlan s = { d with
      activePlan := s.nextPlan.map fun x =>
        { slot := x, void := false, progress := .idle, lateness := none, missed := false, arrived := false }
      activeTiming := s.nextTiming
      inFlight := d.inFlight.map fun c => match c.source with
        | .slot id => { c with slotStands := c.slotStands && (s.nextPlan.any fun x => x.id == id)
            && !(s.activePlan.any fun a => a.void && a.slot.id == id) }
        | .request _ => c } := by
  subst hd
  rw [List.foldl_map, ← leavingSlots_live]
  unfold replacePlan
  dsimp only
  congr 2
  funext c
  cases hc : c.source with
  | slot id => simp only [slotStands_replaced]
  | request t => rfl

/-- The entries that the re-check removes are those that exceed the largest gap (06 R121). -/
theorem withinGap_exceeds (gap : Option Nat) (e : RequestEntry) : (!withinGap e.occupancy gap) = exceeds gap e := by
  cases gap with
  | none => rfl
  | some g =>
    simp only [withinGap, exceeds]
    rw [← decide_not]
    exact decide_eq_decide.mpr Nat.not_le

/-- The next plan made active, with the activation count and the re-check (05 R99, R102, R104; 06 R121). -/
theorem replacePlan_planReplaced (s : State) (h : (s.activePlan.map fun a => a.slot.id).Nodup) :
    planReplaced s (planChanged (changesPlan s) (replacePlan s)) := by
  refine ⟨_, detachLeavings_monitorsFreed _ s (h.sublist ((List.filter_sublist).map _)), ?_, ?_, ?_⟩
  · have e := planChanged_frame (changesPlan s) (replacePlan s)
    generalize planChanged (changesPlan s) (replacePlan s) = w at e ⊢
    rw [replacePlan_eq s _ rfl] at e
    exact e
  · intro hc
    have : changesPlan s = false := by simp [changesPlan, hc.1, hc.2]
    rw [this, replacePlan_frame]
    exact ⟨rfl, rfl, rfl⟩
  · intro hc
    have : changesPlan s = true := by
      simp only [changesPlan, decide_eq_true_eq]
      exact not_and_or.mp hc
    have hg : activeGap (replacePlan s) = largestGap s.nextTiming s.nextPlan := by
      unfold activeGap liveSlots replacePlan
      simp [ActiveSlot.fresh, List.filter_map, Function.comp_def]
    rw [this]
    have hp : (fun e : RequestEntry => !withinGap e.occupancy
          (activeGap { replacePlan s with activationCount := (replacePlan s).activationCount + 1 }))
        = exceeds (largestGap s.nextTiming s.nextPlan) := by
      funext e
      rw [withinGap_exceeds]
      exact congrArg (fun g => exceeds g e) hg
    have hr : planChanged true (replacePlan s)
        = removeEntries .unschedulableOnly (exceeds (largestGap s.nextTiming s.nextPlan)) allPorts
            { replacePlan s with activationCount := (replacePlan s).activationCount + 1 } := by
      simp only [planChanged, if_true, recheck, hp]
    rw [hr, replacePlan_frame]
    refine ⟨rfl, fun p => ?_, ?_⟩
    · have hm : ∀ x : Port, x ∈ allPorts := by decide
      have hl := look_withoutEntries (exceeds (largestGap s.nextTiming s.nextPlan)) allPorts s.requests p
      rwa [if_pos (hm p)] at hl
    · simp only [removeEntries, offerResults, allPorts, List.flatMap_cons, List.flatMap_nil, List.append_nil,
        List.foldl_append, List.foldl_cons, List.foldl_nil, removalOffers, List.foldl_map]
      rfl

/-! ### The phase-0 arrival -/

/-- Changing the one slot with an id, where it stands in the plan. -/
theorem updateSlot_at (f : ActiveSlot → ActiveSlot) (before after : List ActiveSlot) (a : ActiveSlot)
    (h : ((before ++ a :: after).map fun x => x.slot.id).Nodup) :
    updateSlot a.slot.id f (before ++ a :: after) = before ++ f a :: after := by
  have hb : ∀ x ∈ before, x.slot.id ≠ a.slot.id := by
    intro x hx e
    simp only [List.map_append, List.map_cons, List.nodup_append] at h
    exact h.2.2 x.slot.id (List.mem_map_of_mem hx) a.slot.id List.mem_cons_self e
  have ha : ∀ x ∈ after, x.slot.id ≠ a.slot.id := by
    intro x hx e
    simp only [List.map_append, List.map_cons, List.nodup_append, List.nodup_cons] at h
    exact h.2.1.1 (e ▸ List.mem_map_of_mem hx)
  unfold updateSlot
  have hn : ∀ l : List ActiveSlot, (∀ x ∈ l, x.slot.id ≠ a.slot.id) →
      l.map (fun x => if x.slot.id = a.slot.id then f x else x) = l := by
    intro l hl
    conv_rhs => rw [← List.map_id l]
    exact List.map_congr_left fun x hx => if_neg (hl x hx)
  rw [List.map_append, List.map_cons, if_pos rfl, hn before hb, hn after ha]

/-- The phase-0 arrival of a frame that starts (04 R67, R77; 05 R105). -/
theorem phaseArrival_zeroArrival (s : State) (h : (s.activePlan.map fun a => a.slot.id).Nodup)
    (he : s.timebase.elapsed = 0) (ha : ∀ a ∈ s.activePlan, a.arrived = false) : zeroArrival s (phaseArrival s) := by
  refine ⟨fun hz => ?_, fun before a after hp hb hz => ?_⟩
  · have hf : arrivingSlot s = none := by
      unfold arrivingSlot
      rw [List.find?_eq_none]
      intro x hx
      simp [he, hz x hx]
    unfold phaseArrival
    rw [hf]
  · have hf : arrivingSlot s = some a := by
      unfold arrivingSlot
      rw [hp, List.find?_append, List.find?_eq_none.mpr, List.find?_cons_of_pos]
      · rfl
      · simp [he, hz, ha a (by rw [hp]; simp)]
      · intro x hx
        simp [he, hb x hx]
    have hu : ∀ f, updateSlot a.slot.id f s.activePlan = before ++ f a :: after := by
      intro f
      rw [hp] at h ⊢
      exact updateSlot_at f before after a h
    unfold phaseArrival
    rw [hf]
    dsimp only
    rw [hu]
    refine ⟨fun hv => ?_, fun hv hd => ⟨fun hr => ?_, fun hr => ?_⟩⟩
    · cases hx : a.void
      · have hn : a.slot.due s.timebase.frameNumber = false := by
          rcases hv with hv | hv
          · rw [hx] at hv
            cases hv
          · simp [Slot.due, hv]
        simp [arrivedRecord, hx, hn]
      · simp [arrivedRecord, hx]
    · obtain ⟨r, hr⟩ := hr
      have hs : s.reference.state.isSteady = true := by rw [hr]; rfl
      have hn : a.slot.due s.timebase.frameNumber = true := by simp [Slot.due, hd]
      simp [arrivedRecord, hv, hn, hs]
    · have hs : s.reference.state.isSteady = false := by
        cases hx : s.reference.state with
        | steady r taken =>
          cases taken with
          | false => exact absurd hx (hr r)
          | true => rfl
        | settling t n due => rfl
      have hn : a.slot.due s.timebase.frameNumber = true := by simp [Slot.due, hd]
      have ho : (missedOffers s s.timebase.frameNumber a.slot).foldl (offeredResult s.sessions) s.results
          = afterMissed s s.timebase.frameNumber a.slot s.results := by
        unfold missedOffers afterMissed slotRecipients
        rw [List.foldl_map]
        rfl
      simp [arrivedRecord, hv, hn, hs, offerResults, ho]

end Sys2Proof.Machine
end

