-- ==== Sys2Proof/Laws/Ports.lean ====
section
/-! SUPPORT. Everything a request frame can do at a port, said once: taken as new, discarded, or recognised as a
retransmission. A block's decision on a new request is read off with `takeRequest_answered`. -/

namespace Sys2Proof.Machine

/-- The state in which the owning block decides a new request: the frame taken, Busy not yet shown (11 R188 to R190). -/
def taken (s : State) (p : Port) (code : Byte) (q : LinkSeq) (payload : List Byte) : State :=
  { s with ports := put s.ports p { look s.ports p with
      select := .high
      sdo := capturedStatus s p :: List.replicate (3 + payload.length) 0x00
      lastFrame := some (lastFrameOf code q payload)
      storedReply := none
      frameError := false
      overrun := false } }

@[simp] theorem taken_pending (s : State) (p : Port) (k : Byte) (q : LinkSeq) (b : List Byte) :
    (taken s p k q b).pending = s.pending := rfl
@[simp] theorem taken_clock (s : State) (p : Port) (k : Byte) (q : LinkSeq) (b : List Byte) :
    (taken s p k q b).clock = s.clock := rfl
@[simp] theorem taken_moment (s : State) (p : Port) (k : Byte) (q : LinkSeq) (b : List Byte) :
    (taken s p k q b).moment = s.moment := rfl
@[simp] theorem taken_inReset (s : State) (p : Port) (k : Byte) (q : LinkSeq) (b : List Byte) :
    (taken s p k q b).inReset = s.inReset := rfl
@[simp] theorem taken_resetCause (s : State) (p : Port) (k : Byte) (q : LinkSeq) (b : List Byte) :
    (taken s p k q b).resetCause = s.resetCause := rfl
@[simp] theorem taken_syncInput (s : State) (p : Port) (k : Byte) (q : LinkSeq) (b : List Byte) :
    (taken s p k q b).syncInput = s.syncInput := rfl
@[simp] theorem taken_syncSampledLow (s : State) (p : Port) (k : Byte) (q : LinkSeq) (b : List Byte) :
    (taken s p k q b).syncSampledLow = s.syncSampledLow := rfl
@[simp] theorem taken_syncEdgeSampled (s : State) (p : Port) (k : Byte) (q : LinkSeq) (b : List Byte) :
    (taken s p k q b).syncEdgeSampled = s.syncEdgeSampled := rfl
@[simp] theorem taken_selectInput (s : State) (p : Port) (k : Byte) (q : LinkSeq) (b : List Byte) :
    (taken s p k q b).selectInput = s.selectInput := rfl
@[simp] theorem taken_sessions (s : State) (p : Port) (k : Byte) (q : LinkSeq) (b : List Byte) :
    (taken s p k q b).sessions = s.sessions := rfl
@[simp] theorem taken_channels (s : State) (p : Port) (k : Byte) (q : LinkSeq) (b : List Byte) :
    (taken s p k q b).channels = s.channels := rfl
@[simp] theorem taken_reference (s : State) (p : Port) (k : Byte) (q : LinkSeq) (b : List Byte) :
    (taken s p k q b).reference = s.reference := rfl
@[simp] theorem taken_timebase (s : State) (p : Port) (k : Byte) (q : LinkSeq) (b : List Byte) :
    (taken s p k q b).timebase = s.timebase := rfl
@[simp] theorem taken_activeTiming (s : State) (p : Port) (k : Byte) (q : LinkSeq) (b : List Byte) :
    (taken s p k q b).activeTiming = s.activeTiming := rfl
@[simp] theorem taken_nextTiming (s : State) (p : Port) (k : Byte) (q : LinkSeq) (b : List Byte) :
    (taken s p k q b).nextTiming = s.nextTiming := rfl
@[simp] theorem taken_activePlan (s : State) (p : Port) (k : Byte) (q : LinkSeq) (b : List Byte) :
    (taken s p k q b).activePlan = s.activePlan := rfl
@[simp] theorem taken_nextPlan (s : State) (p : Port) (k : Byte) (q : LinkSeq) (b : List Byte) :
    (taken s p k q b).nextPlan = s.nextPlan := rfl
@[simp] theorem taken_staging (s : State) (p : Port) (k : Byte) (q : LinkSeq) (b : List Byte) :
    (taken s p k q b).staging = s.staging := rfl
@[simp] theorem taken_noted (s : State) (p : Port) (k : Byte) (q : LinkSeq) (b : List Byte) :
    (taken s p k q b).noted = s.noted := rfl
@[simp] theorem taken_activationCount (s : State) (p : Port) (k : Byte) (q : LinkSeq) (b : List Byte) :
    (taken s p k q b).activationCount = s.activationCount := rfl
@[simp] theorem taken_requests (s : State) (p : Port) (k : Byte) (q : LinkSeq) (b : List Byte) :
    (taken s p k q b).requests = s.requests := rfl
@[simp] theorem taken_inFlight (s : State) (p : Port) (k : Byte) (q : LinkSeq) (b : List Byte) :
    (taken s p k q b).inFlight = s.inFlight := rfl
@[simp] theorem taken_pointer (s : State) (p : Port) (k : Byte) (q : LinkSeq) (b : List Byte) :
    (taken s p k q b).pointer = s.pointer := rfl
@[simp] theorem taken_results (s : State) (p : Port) (k : Byte) (q : LinkSeq) (b : List Byte) :
    (taken s p k q b).results = s.results := rfl
@[simp] theorem taken_latest (s : State) (p : Port) (k : Byte) (q : LinkSeq) (b : List Byte) :
    (taken s p k q b).latest = s.latest := rfl
@[simp] theorem taken_monitors (s : State) (p : Port) (k : Byte) (q : LinkSeq) (b : List Byte) :
    (taken s p k q b).monitors = s.monitors := rfl
@[simp] theorem taken_events (s : State) (p : Port) (k : Byte) (q : LinkSeq) (b : List Byte) :
    (taken s p k q b).events = s.events := rfl

theorem shiftOut_ports (p : Port) (n : Nat) (s : State) :
    shiftOut p (4 + n) s = { s with ports := put s.ports p { look s.ports p with
      select := .high
      sdo := capturedStatus s p :: List.replicate (3 + n) 0x00 } } := by
  have h : 4 + n - 1 = 3 + n := by omega
  simp [shiftOut, setPort, h]

theorem frameFate_fresh {lp : LinkPort} {code : Byte} {q : LinkSeq} {payload : List Byte} (hb : lp.processing = none)
    (hl : payload.length ≤ 16) (hf : lp.lastFrame ≠ some (lastFrameOf code q payload)) :
    frameFate lp code q payload = .fresh := by
  unfold frameFate LinkPort.busy
  rw [if_neg (by simp [hb]), if_neg (by omega), if_neg hf]

theorem takeFrame_fresh {s : State} {p : Port} {code : Byte} {q : LinkSeq} {payload : List Byte}
    (h : takesNew s p code q payload) (f : State → Decision) :
    takeFrame p q code payload f s = startProcessing p code q (f (taken s p code q payload)) := by
  obtain ⟨hr, hb, hl, hf⟩ := h
  unfold takeFrame
  rw [if_neg (by simp [hr]), shiftOut_ports]
  simp only [look_put_same]
  rw [frameFate_fresh (by exact hb) hl (by exact hf)]
  simp [setPort, taken, LinkPort.tookNew, LinkPort.took]

theorem startProcessing_answered {s t u : State} {p : Port} {code : Byte} {q : LinkSeq} {payload : List Byte} {a : Answer}
    (h : u = { t with ports := (taken s p code q payload).ports }) :
    startProcessing p code q (u, a) = answered s t p code q payload a := by
  subst h
  simp [startProcessing, setPort, taken, answered, carrying]

/-- A request of the right length that a port takes as new is answered as its block decides on the state of the taking. -/
theorem takeRequest_answered {s t : State} {p : Port} {code : Byte} {q : LinkSeq} {payload : List Byte} {n : Nat}
    {a : Answer} {f : State → Decision} (h : takesNew s p code q payload) (hl : payload.length = n)
    (hf : f (taken s p code q payload) = ({ t with ports := (taken s p code q payload).ports }, a)) :
    takeRequest p q code n payload f s = .next (answered s t p code q payload a) := by
  unfold takeRequest
  rw [takeFrame_fresh h, if_pos hl, hf, startProcessing_answered rfl]

/-- A request of another length is answered BAD_LENGTH. -/
theorem takeRequest_badLength {s : State} {p : Port} {code : Byte} {q : LinkSeq} {payload : List Byte} {n : Nat}
    {f : State → Decision} (h : takesNew s p code q payload) (hl : payload.length ≠ n) :
    takeRequest p q code n payload f s = .next (answered s s p code q payload (.built .badLength [])) := by
  unfold takeRequest
  rw [takeFrame_fresh h, if_neg hl]
  exact congrArg _ (startProcessing_answered rfl)

/-- In an OPEN session the request goes to its owning block. -/
theorem inSession_open {p : Port} {f : State → Decision} {s : State} (h : isOpen s p = true) : inSession p f s = f s := by
  unfold inSession
  unfold isOpen Session.lease at h
  split at h <;> simp_all

@[simp] theorem isOpen_taken (s : State) (p x : Port) (code : Byte) (q : LinkSeq) (payload : List Byte) :
    isOpen (taken s p code q payload) x = isOpen s x := rfl

/-- A well-formed command that is a new request frame is the taking of that frame by its port. -/
theorem exec_frame {c : Instr} {p : Port} {code : Byte} {q : LinkSeq} {payload : List Byte} (s : State)
    (hc : frameOf c = some (p, code, q, payload)) (hw : wellFormed c = true) :
    ∃ f, exec c s = .next (takeFrame p q code payload f s) := by
  cases c <;> simp only [frameOf, Option.some.injEq, Prod.mk.injEq, reduceCtorEq] at hc <;>
    obtain ⟨rfl, rfl, rfl, rfl⟩ := hc
  case unknownRequest =>
    simp only [wellFormed, Bool.and_eq_true, bne_iff_ne, Bool.not_eq_true'] at hw
    refine ⟨refuse .unknownRequest, ?_⟩
    show execUnknownRequest _ _ _ _ _ = _
    unfold execUnknownRequest
    rw [if_neg (by simp [hw])]
  all_goals exact ⟨_, rfl⟩

/-- The arbiter reads and changes no port. -/
theorem arbitrate_ports (s : State) (v : Vector LinkPort 4) :
    arbitrate { s with ports := v } = { arbitrate s with ports := v } := by
  have hd : ∀ ps, offerOnDemand { s with ports := v } ps = { offerOnDemand s ps with ports := v } := by
    intro ps
    induction ps with
    | nil => rfl
    | cons p ps ih =>
      unfold offerOnDemand
      have hg : grantableHead { s with ports := v } p = grantableHead s p := rfl
      rw [hg]
      cases grantableHead s p with
      | none => exact ih
      | some x => rfl
  unfold arbitrate
  by_cases h : (s.inFlight.isSome || !s.reference.state.isSteady) = true
  · rw [if_pos h, if_pos h]
  · rw [if_neg h, if_neg h]
    dsimp only
    cases s.activePlan.find? fun a => a.progress == .pending with
    | none => exact hd _
    | some a => rfl

/-! ### The select line -/

/-- A port that takes no transaction only sees its select rise. -/
theorem takeFrame_unheard {s : State} {p : Port} {code : Byte} {q : LinkSeq} {payload : List Byte} (f : State → Decision)
    (h : hears s p = false) : takeFrame p q code payload f s = releaseSelect p s := by
  unfold takeFrame
  rw [if_pos (by simp [h])]

/-- The select line is no part of a status byte. -/
theorem statusByte_select (s : State) (p x : Port) (y : Select) (v : Vector (List Bool) 4) :
    statusByte { setPort p { look s.ports p with select := y } s with selectInput := v } x = statusByte s x := by
  have ha : alert { setPort p { look s.ports p with select := y } s with selectInput := v } x = alert s x := rfl
  have hw : atWatermark { setPort p { look s.ports p with select := y } s with selectInput := v } x = atWatermark s x := rfl
  unfold statusByte
  rw [ha, hw]
  by_cases h : p = x
  · subst h
    simp [LinkPort.replyReady, LinkPort.busy]
  · simp [look_put_other _ (Ne.symm h)]

theorem sampleSelect_statusByte (s : State) (p x : Port) : statusByte (sampleSelect s p) x = statusByte s x := by
  unfold sampleSelect
  split
  · rfl
  · exact statusByte_select _ _ _ _ _

theorem sampleSelect_frame (s : State) (p : Port) :
    sampleSelect s p = { s with ports := (sampleSelect s p).ports, selectInput := (sampleSelect s p).selectInput } := by
  unfold sampleSelect
  split <;> rfl

theorem sampleSelects_frame (s : State) :
    sampleSelects s = { s with ports := (sampleSelects s).ports, selectInput := (sampleSelects s).selectInput } := by
  have h : ∀ (ps : List Port) (s : State), ps.foldl sampleSelect s
      = { s with ports := (ps.foldl sampleSelect s).ports, selectInput := (ps.foldl sampleSelect s).selectInput } := by
    intro ps
    induction ps with
    | nil => exact fun _ => rfl
    | cons p ps ih =>
      intro s
      rw [List.foldl_cons, ih, sampleSelect_frame]
  exact h allPorts s

/-- What the sampling of the selects does to one port: nothing where its input is exhausted, else the level is taken. -/
theorem sampleSelects_port (s : State) (p : Port) :
    look (sampleSelects s).ports p
        = (match look s.selectInput p with
          | [] => look s.ports p
          | level :: _ =>
            { look s.ports p with select := (look s.ports p).select.sampled s.inReset (statusByte s p) level })
      ∧ look (sampleSelects s).selectInput p = (look s.selectInput p).tail := by
  have one : ∀ (s : State) (x : Port),
      look (sampleSelect s x).ports p
          = (if x = p then
              match look s.selectInput p with
              | [] => look s.ports p
              | level :: _ =>
                { look s.ports p with select := (look s.ports p).select.sampled s.inReset (statusByte s p) level }
            else look s.ports p)
        ∧ look (sampleSelect s x).selectInput p
          = if x = p then (look s.selectInput p).tail else look s.selectInput p := by
    intro s x
    unfold sampleSelect
    by_cases h : x = p
    · subst h
      cases hl : look s.selectInput x <;> simp [hl]
    · cases hl : look s.selectInput x <;> simp [h, look_put_other _ (Ne.symm h)]
  have fold : ∀ (ps : List Port) (s : State), ps.Nodup →
      look (ps.foldl sampleSelect s).ports p
          = (if p ∈ ps then
              match look s.selectInput p with
              | [] => look s.ports p
              | level :: _ =>
                { look s.ports p with select := (look s.ports p).select.sampled s.inReset (statusByte s p) level }
            else look s.ports p)
        ∧ look (ps.foldl sampleSelect s).selectInput p
          = if p ∈ ps then (look s.selectInput p).tail else look s.selectInput p := by
    intro ps
    induction ps with
    | nil => simp
    | cons x ps ih =>
      intro s hn
      rw [List.nodup_cons] at hn
      rw [List.foldl_cons, (ih _ hn.2).1, (ih _ hn.2).2, (one s x).1, (one s x).2, sampleSelect_statusByte]
      have hr : (sampleSelect s x).inReset = s.inReset := by rw [sampleSelect_frame]
      rw [hr]
      by_cases h : x = p
      · subst h
        simp [hn.1]
      · simp [h, Ne.symm h]
  have ha : p ∈ allPorts := by
    match p with
    | 0 => decide
    | 1 => decide
    | 2 => decide
    | 3 => decide
  have h := fold allPorts s (by decide)
  rw [if_pos ha, if_pos ha] at h
  exact h

end Sys2Proof.Machine
end

