-- ==== Sys2Proof/Tests/Slice0.lean ====
section
/-! SUPPORT. The model's own tests: ill-formed commands that the check refuses, worked frames and sequences of the manual, and
for every statement with hypotheses a state and operands that meet them, clause by clause at the ends of the ranges. -/

namespace Sys2Proof.Machine

set_option Elab.async false

/-! ### Small states -/

/-- The state that a result goes on to. -/
def nextOf (r : Result) : Option State := match r with | .next t => some t | _ => none

def testLease : Lease :=
  { leaseLength := 100, leaseRemaining := 100, leaseTick := 0, fallDue := false, warningSent := false,
    expectedRenewal := 1, policy := .dropNewest, watermark := 1 }

/-- The sessions 0 to 2 are OPEN, session 3 is CLOSED. -/
def opened3 : State :=
  [0, 1, 2].foldl (fun s p => setSession p { state := .opened testLease, previousRevoked := false } s) State.reset

def withChannel (ch : Channel) (x : ChannelRec) : State := setChannel ch x opened3

def testPart : DigitalPart := { direction := .input, pullUp := false, outputLevel := false }

def withReference (x : RefState) (h : Option Port) : State := { opened3 with reference := { state := x, holder := h } }

def testSlot (id : SlotId) (phase : Nat) : Slot :=
  { id, owner := 0, channel := 0, phase, sampleTicks := 4, resolution := .bits12, decimation := 1, frameOffset := 0 }

def testEntry (tag : Byte) : RequestEntry :=
  { tag, channel := 0, resolution := .bits8, sampleTicks := 2, averaging := .one, occupancy := 7 }

def testFlight (src : Source) : InFlight :=
  { source := src, session := 0, channel := 0, resolution := .bits12, sampleTicks := 4, averaging := .one,
    reference := .internal, startTick := 0, plannedEnd := 11, frame := 0, startPhase := 0, lateness := none,
    monitor := none, recipients := [{ session := 0, skipped := false }], discard := false, slotStands := true,
    samples := [] }

/-- Frame 3 under FREE timing: slot 0 at phase 100 and slot 1 at phase 111, on channel 0 of session 0. -/
def planned (st : TimebaseState) (elapsed : Nat) : State :=
  { withChannel 0 (.analog 0 [1]) with
    timebase := { state := st, frameNumber := 3, elapsed, boundaryDue := false, missCount := 2, spuriousCount := 0,
                  holder := some 0 }
    activePlan := [ActiveSlot.fresh (testSlot 0 100), ActiveSlot.fresh (testSlot 1 111)]
    nextPlan := [testSlot 0 100, testSlot 1 111] }

/-- The boundary of the frame of `planned` is due, Elapsed at its last value. -/
def atBoundary (st : TimebaseState) (elapsed : Nat) : State :=
  { planned st elapsed with timebase := { (planned st elapsed).timebase with boundaryDue := true } }

/-- The select of a port, and the levels it will show at the coming ticks. -/
def withSelect (p : Port) (x : Select) (levels : List Bool) (s : State) : State :=
  { setPort p { look s.ports p with select := x } s with selectInput := put s.selectInput p levels }

def staged (p : Port) (edits : List Edit) (s : State) : State := setStaging p edits s

def testMonitor : Monitor :=
  { owner := 0, slot := 0, lowLimit := 100, highLimit := 4095, filterCount := 1, zone := .unknown, candidate := none,
    runCount := 0 }

def busyPort (p : Port) (s : State) : State :=
  setPort p { look s.ports p with processing := some { code := 0x01, seq := 0, answer := .built .ok [] } } s

/-! ### Well-formedness -/

theorem test_illFormed_payload : wellFormed (.identify 0 0 (List.replicate 17 0)) = false := by decide +kernel
theorem test_illFormed_collect : wellFormed (.collectTransaction 0 false 0) = false := by decide +kernel
theorem test_illFormed_discardedEmpty : wellFormed (.frameDiscarded 0 []) = false := by decide +kernel
theorem test_illFormed_discardedCollect : wellFormed (.frameDiscarded 0 [0xF0, 1]) = false := by decide +kernel
theorem test_illFormed_retransmission : wellFormed (.retransmission 0 0 0xF0 []) = false := by decide +kernel
theorem test_illFormed_unknownCollect : wellFormed (.unknownRequest 0 0 0xF0 []) = false := by decide +kernel
theorem test_illFormed_unknownNamed : wellFormed (.unknownRequest 0 0 0x05 []) = false := by decide +kernel

/-! ### Worked frames -/

/-- The frames of 11 R187: IDENTIFY with link sequence number 0, RENEW with number 3 and renewal number 2. -/
theorem test_workedFrames :
    transactionCommand 2 [0x01, 0x00, 0x00, 0x6B] = some (.identify 2 0 [])
      ∧ transactionCommand 1 [0x04, 0x03, 0x02, 0x00, 0x02, 0x6D] = some (.renew 1 3 [0x00, 0x02])
      ∧ transactionCommand 1 [0x04, 0x03, 0x02, 0x00, 0x02, 0x6C] = some (.frameDiscarded 1 [0x04, 0x03, 0x02, 0x00, 0x02, 0x6C])
      ∧ transactionCommand 0 [0xF0, 0, 0] = some (.collectTransaction 0 false 3)
      ∧ transactionCommand 0 (requestFrame 0x77 1 [5]) = some (.unknownRequest 0 1 0x77 [5]) := by
  decide +kernel

/-- The status byte after a device reset is 0x01: only RESET_SEEN (11 R181, R185). -/
theorem test_statusAfterReset : ∀ p : Port, statusByte State.reset p = 0x01 := by decide +kernel

/-- A CLAIM for ANALOG of a free pin channel settles and is ACCEPTED (02 R33). -/
theorem test_claim : (nextOf (exec (.claim 0 1 [5, 0]) opened3)).map (fun t => (look t.channels 5, heldAnswer t 0))
    = some (.settling 0 240 false, some (.built .accepted [2])) := by decide +kernel

/-- The largest gap of the plan of two slots in F = 2,000: 1,978 ticks from the end of the last to the first (05 R88). -/
theorem test_largestGap : activeGap (planned .freeRun 0) = some 1978 := by decide +kernel

/-- A select that falls at a tick captures the status byte, which a later event does not change; the transaction shifts out
the captured byte and leaves the select high (11 R182, R185). -/
theorem test_selectFallCaptures :
    ((nextOf (step (withSelect 0 .high [false] opened3))).map fun t => ((look t.ports 0).select, sdoDriven t 0))
        = some (.low 0x11, true)
      ∧ ((nextOf (exec (.identify 0 0 []) (withSelect 0 (.low 0x51) [] opened3))).map
          fun t => ((look t.ports 0).sdo, (look t.ports 0).select)) = some ([0x51, 0, 0, 0], .high) := by
  decide +kernel

/-- A select that is low at a device reset is ignored after it, until it rises (11 R181). -/
theorem test_selectIgnoredAfterReset :
    (((nextOf (exec (.deviceReset .resetPin) (withSelect 0 (.low 0x11) [] opened3))).bind
        fun t => nextOf (exec .resetEnd t)).map fun t => (hears t 0, sdoDriven t 0, hears t 1)) = some (false, false, true) := by
  decide +kernel

/-- The bits of an incomplete byte are dropped (11 R182). -/
theorem test_incompleteByteDropped :
    transactionOfBits 2 ([0x01, 0x00, 0x00, 0x6B].flatMap byteBits ++ [true, false, true]) = some (.identify 2 0 [])
      ∧ transactionOfBits 2 [true, true, true, true, false, false, false] = none := by
  decide +kernel

/-- A latest-value peek answers with the entry of its taking (07 R129). -/
theorem test_peekAtTaking :
    (nextOf (exec (.peekLatest 0 1 [0]) (setLatest 0 none opened3))).map (fun t => heldAnswer t 0)
      = some (some (.built .ok (0 :: List.replicate 10 0))) := by decide +kernel

/-- A settle count at 1 keeps its value at the tick that ends the settle, and the end is due (02 R23, R28; log 12). -/
theorem test_settleTick : settleTick 2 false = (1, false) ∧ settleTick 1 false = (1, true) := by decide

/-! ### Witnesses: steps and link ports -/

theorem test_hyp_StepRunsFrontCommand :
    ({ State.reset with pending := [.resetEnd, .syncEdge] } : State).pending = .resetEnd :: [.syncEdge] := rfl

/-- A tick with a settling channel and reference, HUNTING, nothing in flight. -/
def hunting : State :=
  { withChannel 0 (.settling 0 1 false) with
    reference := { state := .settling .external 1 false, holder := some 0 }
    timebase := { State.reset.timebase with state := .hunting 0 } }

/-- A tick in a running frame, the acquisition period of a sample ending at clock 4. -/
def sampling (clock : Nat) : State := { planned .freeRun 5 with clock, inFlight := some (testFlight (.slot 0)) }

theorem test_hyp_IdleTickAdvancesEveryCount :
    (hunting.pending = [] ∧ hunting.inReset = false ∧ dueEvents hunting = []
        ∧ (∀ p : Port, (look hunting.ports p).processing = none)
        ∧ (look hunting.sessions 0).state = .opened testLease ∧ isOpen hunting 3 = false
        ∧ look hunting.channels 0 = .settling 0 1 false ∧ hunting.reference.state = .settling .external 1 false
        ∧ hunting.timebase.state = .hunting 0 ∧ hunting.inFlight = none)
      ∧ ((sampling 3).pending = [] ∧ (sampling 3).inReset = false ∧ dueEvents (sampling 3) = []
        ∧ (∀ p : Port, (look (sampling 3).ports p).processing = none) ∧ running (sampling 3) = true
        ∧ look (sampling 3).channels 0 = .analog 0 [1] ∧ (sampling 3).reference.state = .steady .internal false
        ∧ (sampling 3).inFlight = some (testFlight (.slot 0)) ∧ (testFlight (.slot 0)).samples.length < 1
        ∧ (sampling 3).clock + 1 = 0 + 0 * (4 + 7) + 4)
      ∧ ((sampling 2).inFlight = some (testFlight (.slot 0)) ∧ dueEvents (sampling 2) = []
        ∧ (sampling 2).clock + 1 ≠ 0 + 0 * (4 + 7) + 4)
      ∧ (dueEvents opened3 = [] ∧ opened3.timebase.state = .stopped ∧ opened3.inFlight = none) := by
  decide +kernel

/-- A lease whose fall is due, with a request in processing. -/
def fallDue : State :=
  busyPort 0 (setSession 0 { state := .opened { testLease with leaseTick := 1999, fallDue := true }
                             previousRevoked := false } opened3)

theorem test_hyp_IdleTick_eventsDue :
    (fallDue.pending = [] ∧ fallDue.inReset = false ∧ dueEvents fallDue = [.leaseFall 0]
        ∧ (look fallDue.ports 0).processing.isSome = true)
      ∧ (dueEvents (busyPort 0 opened3) = [] ∧ (look (busyPort 0 opened3).ports 0).processing.isSome = true)
      ∧ (testLease.leaseTick < 1999 ∧ ¬1999 < 1999)
      ∧ ((planned .freeRun 1998).timebase.elapsed + 1 < (planned .freeRun 1998).activeTiming.frameLength
        ∧ ¬(planned .flywheel 1999).timebase.elapsed + 1 < (planned .flywheel 1999).activeTiming.frameLength
        ∧ (planned .locked 2014).timebase.elapsed + 1 < 2000 + 16 ∧ ¬(planned .locked 2015).timebase.elapsed + 1 < 2000 + 16)
      ∧ (look opened3.selectInput 0 = [] ∧ look (withSelect 0 .high [false] opened3).selectInput 0 = false :: []
        ∧ look (withSelect 0 .ignored [true, false] opened3).selectInput 0 = true :: [false]) := by
  decide +kernel

theorem test_hyp_DeviceResetAndItsEnd :
    (({ State.reset with inReset := true } : State).inReset = true ∧ ({ State.reset with inReset := true } : State).pending = [])
      ∧ (look (withSelect 0 .ignored [] opened3).ports 0).select = .ignored
      ∧ (frameOf (.openSession 0 0 [0, 5, 0, 1])).isSome = true ∧ wellFormed (.openSession 0 0 [0, 5, 0, 1]) = true
      ∧ wellFormed (.collectTransaction 0 false 1) = true ∧ wellFormed (.frameDiscarded 0 [1]) = true
      ∧ wellFormed (.retransmission 0 0 1 []) = true
      ∧ look (withSelect 3 .high [false] State.reset).selectInput 3 = false :: [] := by decide +kernel

theorem test_hyp_NewRequestTaken :
    frameOf (.unknownRequest 3 15 0x00 (List.replicate 16 0)) = some (3, 0x00, 15, List.replicate 16 0)
      ∧ wellFormed (.unknownRequest 3 15 0x00 (List.replicate 16 0)) = true
      ∧ takesNew opened3 3 0x00 15 (List.replicate 16 0) ∧ (0x00 : Byte) ≠ 0x02
      ∧ frameOf (.openSession 3 0 []) = some (3, 0x02, 0, []) ∧ takesNew opened3 3 0x02 0 [] := by
  unfold takesNew
  decide +kernel

theorem test_hyp_FramesNotCarriedOut :
    (frameOf (.identify 0 0 []) = some (0, 0x01, 0, []) ∧ wellFormed (.identify 0 0 []) = true
        ∧ hears (busyPort 0 opened3) 0 = true ∧ (look (busyPort 0 opened3).ports 0).processing.isSome = true)
      ∧ ([0x01] : List Byte) ≠ [] ∧ ([0x01] : List Byte).head? ≠ some collectCode
      ∧ ((look opened3.ports 0).processing = none ∧ hears opened3 0 = true
        ∧ damagedBytes [0x01] ∧ damagedBytes [0x01, 0x10, 0x00, crc8 [0x01, 0x10, 0x00]]
        ∧ damagedBytes [0x01, 0x00, 0x00, 0x6A] ∧ damagedBytes [0x01, 0x00, 0x00, 0x6B, 0x00]
        ∧ damagedBytes ([0x01, 0x00, 17] ++ List.replicate 17 0 ++ [crc8 ([0x01, 0x00, 17] ++ List.replicate 17 0)]))
      ∧ (look (setPort 0 { LinkPort.reset with lastFrame := some (lastFrameOf 0x01 2 []) } opened3).ports 0).lastFrame
        = some { seq := 2, code := 0x01, length := 0, crc := crc8 (frameBody 0x01 2 []) } := by
  unfold damagedBytes
  decide +kernel

theorem test_hyp_PortAnswersUnknownAndBadLength :
    takesNew opened3 0 0x59 0 [1] ∧ (0x59 : Byte) ≠ collectCode
      ∧ (frameOf (.renew 0 0 [1]) = some (0, 0x04, 0, [1]) ∧ wellFormed (.renew 0 0 [1]) = true
        ∧ takesNew opened3 0 0x04 0 [1] ∧ ((0x04, 2) : Byte × Nat) ∈ requestLengths ∧ ([1] : List Byte).length ≠ 2) := by
  unfold takesNew
  decide +kernel

theorem test_hyp_PortAnswersUnknown_code : ∀ n : Nat, ((0x59, n) : Byte × Nat) ∉ requestLengths := by
  intro n
  simp [requestLengths]

theorem test_hyp_SessionStateAnswers :
    frameOf (.fetchEvents 3 1 [4]) = some (3, 0x58, 1, [4]) ∧ takesNew opened3 3 0x58 1 [4]
      ∧ ((0x58, 1) : Byte × Nat) ∈ requestLengths ∧ wellFormed (.fetchEvents 3 1 [4]) = true
      ∧ (look opened3.sessions 3).state = .closed
      ∧ takesNew (setSession 3 { state := .revoked, previousRevoked := false } opened3) 3 0x58 1 [4]
      ∧ (look (setSession 3 { state := .revoked, previousRevoked := false } opened3).sessions 3).state = .revoked := by
  unfold takesNew
  decide +kernel

theorem test_hyp_ReplyStoredForCollection :
    (look (busyPort 0 opened3).ports 0).processing = some { code := 0x01, seq := 0, answer := .built .ok [] } := by
  decide +kernel

theorem test_hyp_CollectReturnsStoredReply :
    (0 < 1 ∧ hears opened3 0 = true ∧ (look opened3.ports 0).storedReply = none)
      ∧ (look (setPort 0 { LinkPort.reset with storedReply := some [0, 1, 0, 0, 0] } opened3).ports 0).storedReply
        = some [0, 1, 0, 0, 0]
      ∧ (look (setPort 0 { LinkPort.reset with storedReply := some [0, 1, 0, 0, 0] } opened3).ports 0).processing = none
      ∧ (nextOf (exec (.replyStored 0) (busyPort 0 opened3))).map (fun u => (look u.ports 0).storedReply)
        = some (some [0, 1, 0, 0, crc8 [0, 1, 0, 0]]) := by
  decide +kernel

theorem test_hyp_StatusByteAndAlert :
    (look opened3.sessions 0).state = .opened testLease ∧ atWatermark opened3 0 = false
      ∧ (look (withSelect 0 (.low 0x51) [] opened3).ports 0).select = .low 0x51 ∧ (look opened3.ports 0).select = .high := by
  decide +kernel

theorem test_hyp_TransactionBytesGiveCommand :
    frameOf (.stageAdd 1 7 [0, 0, 0, 2, 8, 1, 0]) = some (1, 0x30, 7, [0, 0, 0, 2, 8, 1, 0])
      ∧ wellFormed (.stageAdd 1 7 [0, 0, 0, 2, 8, 1, 0]) = true ∧ (List.replicate 7 true).length < 8 := by decide +kernel

/-! ### Witnesses: sessions -/

theorem test_hyp_IdentifyReply : takesNew State.reset 3 0x01 15 [] := by
  unfold takesNew
  decide +kernel

theorem test_hyp_OpenRefused :
    (takesNew opened3 0 0x02 0 [0, 5, 0, 1] ∧ isOpen opened3 0 = true)
      ∧ (takesNew opened3 3 0x02 0 [0, 4, 0, 1] ∧ isOpen opened3 3 = false ∧ be16 0 4 < 5)
      ∧ 5000 < be16 0x13 0x89 ∧ 1 < (2 : Byte).toNat ∧ (0 : Byte).toNat < 1 ∧ 32 < (33 : Byte).toNat := by
  unfold takesNew
  decide +kernel

theorem test_hyp_OpenBeginsSession :
    takesNew opened3 3 0x02 0 [0x13, 0x88, 1, 32] ∧ isOpen opened3 3 = false ∧ 5 ≤ be16 0 5 ∧ be16 0x13 0x88 ≤ 5000
      ∧ (1 : Byte).toNat ≤ 1 ∧ 1 ≤ (1 : Byte).toNat ∧ (32 : Byte).toNat ≤ 32 := by
  unfold takesNew
  decide +kernel

theorem test_hyp_CloseEndsSession :
    takesNew (planned .freeRun 0) 0 0x03 0 [] ∧ isOpen (planned .freeRun 0) 0 = true ∧ subscribersLawful (planned .freeRun 0)
      ∧ (∃ a ∈ (planned .freeRun 0).activePlan, a.slot.owner = 0 ∧ a.void = false)
      ∧ (takesNew opened3 0 0x03 0 [] ∧ isOpen opened3 0 = true ∧ subscribersLawful opened3) := by
  unfold takesNew subscribersLawful
  decide +kernel

theorem test_hyp_RenewRefillsLease :
    takesNew opened3 0 0x04 0 [0, 1] ∧ takesNew opened3 0 0x04 0 [0, 2]
      ∧ (look opened3.sessions 0).state = .opened testLease
      ∧ be16 0 1 = testLease.expectedRenewal.toNat ∧ be16 0 2 ≠ testLease.expectedRenewal.toNat := by
  unfold takesNew
  decide +kernel

theorem test_hyp_ReadingsChangeNothing :
    isOpen opened3 0 = true ∧ takesNew opened3 0 0x05 0 [] ∧ takesNew opened3 0 0x23 0 [] ∧ takesNew opened3 0 0x2A 0 []
      ∧ (takesNew opened3 0 0x17 0 [13] ∧ (13 : Byte).toNat = (13 : Channel).val)
      ∧ (takesNew opened3 0 0x17 0 [14] ∧ 14 ≤ (14 : Byte).toNat)
      ∧ takesNew opened3 0 0x49 0 [13] ∧ takesNew opened3 0 0x49 0 [14]
      ∧ (takesNew opened3 0 0x36 0 [23] ∧ (23 : Byte).toNat ≤ 23) ∧ (takesNew opened3 0 0x36 0 [24] ∧ 24 ≤ (24 : Byte).toNat)
      ∧ (takesNew opened3 0 0x52 0 [7] ∧ (7 : Byte).toNat = (7 : MonitorId).val)
      ∧ (takesNew opened3 0 0x52 0 [8] ∧ 8 ≤ (8 : Byte).toNat) := by
  unfold takesNew
  decide +kernel

/-- A latest value with fields at the ends of their ranges. -/
def testLatest : LatestValue :=
  { value := 4095, resolution := .bits12, reference := .internal, frame := 0, source := .request 255, session := 3 }

theorem test_hyp_ReadingRepliesBuilt :
    ((look opened3.sessions 0).state = .opened testLease ∧ (look opened3.sessions 3).state = .closed
        ∧ (look (setSession 3 { state := .revoked, previousRevoked := false } opened3).sessions 3).state = .revoked)
      ∧ (look opened3.channels 0 = .free
        ∧ look (withChannel 0 (.settling 0 240 false)).channels 0 = .settling 0 240 false
        ∧ look (withChannel 11 (.digital 0 testPart)).channels 11 = .digital 0 testPart
        ∧ (11 : Channel).val = (11 : Fin 12).val
        ∧ look (withChannel 0 (.analog 0 [3, 2, 1])).channels 0 = .analog 0 [3, 2, 1]
        ∧ look (withChannel 11 .reference).channels 11 = .reference)
      ∧ (∀ r taken, (withReference (.steady r taken) (some 0)).reference.state = .steady r taken)
      ∧ (∀ r, (withReference (.settling r 400 false) (some 0)).reference.state = .settling r 400 false)
      ∧ (hunting.timebase.state = .hunting 0 ∧ opened3.timebase.state = .stopped
        ∧ (planned .freeRun 0).timebase.state = .freeRun ∧ (planned .locked 0).timebase.state = .locked
        ∧ (planned .flywheel 0).timebase.state = .flywheel)
      ∧ (look (setMonitor 7 (some testMonitor) opened3).monitors 7 = some testMonitor ∧ look opened3.monitors 0 = none
        ∧ testMonitor.slot = (ActiveSlot.fresh (testSlot 0 100)).slot.id
        ∧ look opened3.latest 0 = none ∧ look (setLatest 0 (some testLatest) opened3).latest 0 = some testLatest) := by
  refine ⟨by decide +kernel, by decide +kernel, fun _ _ => rfl, fun _ => rfl, by decide +kernel, by decide +kernel⟩

/-- Session 0 with a given lease. -/
def leased (l : Lease) : State := setSession 0 { state := .opened l, previousRevoked := false } opened3

theorem test_hyp_LeaseFallAndWarning :
    ((look (leased { testLease with leaseRemaining := 26, leaseTick := 1999, fallDue := true }).sessions 0).state
          = .opened { testLease with leaseRemaining := 26, leaseTick := 1999, fallDue := true }
        ∧ 4 * (26 - 1) ≤ testLease.leaseLength ∧ testLease.warningSent = false)
      ∧ testLease.leaseLength < 4 * (27 - 1)
      ∧ ({ testLease with warningSent := true } : Lease).warningSent = true := by
  decide +kernel

theorem test_hyp_LeaseExpiryRevokes :
    (look (leased { testLease with leaseRemaining := 0 }).sessions 0).state
        = .opened { testLease with leaseRemaining := 0 }
      ∧ subscribersLawful (leased { testLease with leaseRemaining := 0 }) := by
  unfold subscribersLawful
  decide +kernel

/-! ### Witnesses: channels -/

theorem test_hyp_ClaimForAnalog :
    (isOpen opened3 0 = true ∧ takesNew opened3 0 0x10 0 [14, 0] ∧ 14 ≤ (14 : Byte).toNat
        ∧ takesNew opened3 0 0x10 0 [0, 2] ∧ 1 < (2 : Byte).toNat)
      ∧ (takesNew opened3 0 0x10 0 [11, 0] ∧ (11 : Byte).toNat = (11 : Channel).val ∧ look opened3.channels 11 = .free)
      ∧ (takesNew opened3 0 0x10 0 [12, 0] ∧ look opened3.channels 12 = .free ∧ 12 ≤ (12 : Channel).val)
      ∧ look (withChannel 0 (.digital 0 testPart)).channels 0 = .digital 0 testPart
      ∧ look (withChannel 0 (.analog 0 [])).channels 0 = .analog 0 []
      ∧ look (withChannel 11 .reference).channels 11 = .reference
      ∧ look (withChannel 0 (.settling 0 1 false)).channels 0 = .settling 0 1 false
      ∧ ((look (withChannel 0 (.settling 1 1 false)).channels 0).owner = some 1 ∧ (1 : Port) ≠ 0)
      ∧ takesNew (withChannel 0 (.settling 1 1 false)) 0 0x10 0 [0, 0] := by
  unfold takesNew
  decide +kernel

theorem test_hyp_ClaimForDigital :
    (isOpen opened3 0 = true ∧ takesNew opened3 0 0x10 0 [12, 1] ∧ 12 ≤ (12 : Channel).val)
      ∧ (takesNew opened3 0 0x10 0 [11, 1] ∧ (11 : Channel).val < 12 ∧ look opened3.channels 11 = .free)
      ∧ look (withChannel 0 (.digital 0 testPart)).channels 0 = .digital 0 testPart
      ∧ look (withChannel 11 .reference).channels 11 = .reference
      ∧ (takesNew (planned .freeRun 0) 0 0x10 0 [0, 1] ∧ look (planned .freeRun 0).channels 0 = .analog 0 [1]
        ∧ ([1] : List Port).Nodup ∧ (0 : Port) ∉ ([1] : List Port)
        ∧ ∃ sl ∈ (planned .freeRun 0).nextPlan, sl.channel = 0)
      ∧ (look (withChannel 0 (.analog 0 [1])).channels 0 = .analog 0 [1]
        ∧ ¬((∃ sl ∈ (withChannel 0 (.analog 0 [1])).nextPlan, sl.channel = 0)
          ∨ ∃ a ∈ (withChannel 0 (.analog 0 [1])).activePlan, a.void = false ∧ a.slot.channel = 0)) := by
  unfold takesNew
  decide +kernel

theorem test_hyp_ReleaseFreesChannel :
    (isOpen opened3 0 = true ∧ takesNew opened3 0 0x11 0 [14] ∧ 14 ≤ (14 : Byte).toNat)
      ∧ (takesNew opened3 0 0x11 0 [13] ∧ (look opened3.channels 13).owner ≠ some 0)
      ∧ (takesNew (planned .freeRun 0) 0 0x11 0 [0] ∧ (look (planned .freeRun 0).channels 0).owner = some 0
        ∧ ∃ a ∈ (planned .freeRun 0).activePlan, a.void = false ∧ a.slot.channel = 0)
      ∧ look (withChannel 0 (.settling 0 1 false)).channels 0 = .settling 0 1 false
      ∧ look (withChannel 0 (.digital 0 testPart)).channels 0 = .digital 0 testPart
      ∧ (look (withChannel 0 (.analog 0 [1])).channels 0 = .analog 0 [1] ∧ ([1] : List Port).Nodup
        ∧ ¬((∃ sl ∈ (withChannel 0 (.analog 0 [1])).nextPlan, sl.channel = 0)
          ∨ ∃ a ∈ (withChannel 0 (.analog 0 [1])).activePlan, a.void = false ∧ a.slot.channel = 0)) := by
  unfold takesNew
  decide +kernel

theorem test_hyp_SubscribeJoinsList :
    (isOpen opened3 1 = true ∧ takesNew opened3 1 0x12 0 [14])
      ∧ (takesNew (withChannel 0 (.analog 0 [])) 0 0x12 0 [0] ∧ look (withChannel 0 (.analog 0 [])).channels 0 = .analog 0 [])
      ∧ (takesNew (withChannel 0 (.analog 0 [1])) 1 0x12 0 [0] ∧ (1 : Port) ∈ ([1] : List Port))
      ∧ ((0 : Port) ≠ 1 ∧ (1 : Port) ∉ ([2, 3, 2] : List Port) ∧ 3 ≤ ([2, 3, 2] : List Port).length
        ∧ look (withChannel 0 (.analog 0 [2, 3, 2])).channels 0 = .analog 0 [2, 3, 2])
      ∧ ((1 : Port) ∉ ([2, 3] : List Port) ∧ ([2, 3] : List Port).length < 3
        ∧ look (withChannel 0 (.analog 0 [2, 3])).channels 0 = .analog 0 [2, 3]) := by
  unfold takesNew
  decide +kernel

theorem test_hyp_Subscribe_notAnalog : ∀ (o : Port) (subs : List Port), look opened3.channels 13 ≠ .analog o subs := by
  have h : look opened3.channels 13 = .free := by decide +kernel
  rw [h]
  exact nofun

theorem test_hyp_UnsubscribeLeavesList :
    (isOpen opened3 1 = true ∧ takesNew opened3 1 0x13 0 [14])
      ∧ (takesNew opened3 1 0x13 0 [13] ∧ (1 : Port) ∉ (look opened3.channels 13).subscribers)
      ∧ (takesNew (withChannel 0 (.analog 0 [1])) 1 0x13 0 [0]
        ∧ look (withChannel 0 (.analog 0 [1])).channels 0 = .analog 0 [1] ∧ (1 : Port) ∈ ([1] : List Port))
      ∧ ∀ (o : Port) (subs : List Port), ChannelRec.free ≠ .analog o subs := by
  refine ⟨?_, ?_, ?_, fun _ _ => nofun⟩ <;> unfold takesNew <;> decide +kernel

theorem test_hyp_PinRequests :
    (isOpen opened3 0 = true ∧ takesNew opened3 0 0x14 0 [14, 0, 0] ∧ takesNew opened3 0 0x14 0 [0, 2, 0]
        ∧ takesNew opened3 0 0x14 0 [0, 0, 2] ∧ takesNew opened3 0 0x15 0 [0, 2] ∧ takesNew opened3 0 0x16 0 [14])
      ∧ (takesNew opened3 0 0x14 0 [13, 1, 1] ∧ takesNew opened3 0 0x15 0 [13, 1] ∧ takesNew opened3 0 0x16 0 [13])
      ∧ (look (withChannel 0 (.digital 1 testPart)).channels 0 = .digital 1 testPart ∧ (1 : Port) ≠ 0
        ∧ takesNew (withChannel 0 (.digital 1 testPart)) 0 0x14 0 [0, 1, 1])
      ∧ (look (withChannel 0 (.digital 0 testPart)).channels 0 = .digital 0 testPart ∧ testPart.direction = .input
        ∧ takesNew (withChannel 0 (.digital 0 testPart)) 0 0x15 0 [0, 1])
      ∧ ({ testPart with direction := .output } : DigitalPart).direction = .output := by
  unfold takesNew
  decide +kernel

theorem test_hyp_Pin_notDigital : ∀ (o : Port) (d : DigitalPart), look opened3.channels 13 ≠ .digital o d := by
  have h : look opened3.channels 13 = .free := by decide +kernel
  rw [h]
  exact nofun

theorem test_hyp_AnalogSettleEnds :
    look (withChannel 11 (.settling 2 1 true)).channels 11 = .settling 2 1 true := by decide +kernel

/-! ### Witnesses: the reference and the timebase -/

theorem test_hyp_ReferenceRole :
    (isOpen opened3 0 = true ∧ takesNew opened3 0 0x20 0 [] ∧ opened3.reference.holder = none)
      ∧ (takesNew (withReference (.steady .internal true) (some 0)) 0 0x21 0 []
        ∧ (withReference (.steady .internal true) (some 0)).reference.holder = some 0)
      ∧ ((withReference (.steady .external false) (some 1)).reference.holder = some 1 ∧ (1 : Port) ≠ 0)
      ∧ (takesNew opened3 0 0x21 0 [] ∧ opened3.reference.holder ≠ some 0)
      ∧ (withReference (.steady .external false) (some 0)).inFlight = none
      ∧ ({ withReference (.steady .external false) (some 0) with inFlight := some (testFlight (.slot 0)) } : State).inFlight
        ≠ none
      ∧ (withReference (.settling .external 1 false) (some 0)).reference.state = .settling .external 1 false
      ∧ (withReference (.settling .internal 1 false) (some 0)).reference.state = .settling .internal 1 false := by
  unfold takesNew
  decide +kernel

theorem test_hyp_SelectReferenceTable :
    (isOpen opened3 0 = true ∧ takesNew opened3 0 0x22 0 [2] ∧ 1 < (2 : Byte).toNat)
      ∧ (takesNew opened3 0 0x22 0 [1] ∧ opened3.reference.holder ≠ some 0)
      ∧ (takesNew (withReference (.steady .internal false) (some 0)) 0 0x22 0 [1]
        ∧ (withReference (.steady .internal false) (some 0)).reference.holder = some 0
        ∧ look (withReference (.steady .internal false) (some 0)).channels 11 = .free
        ∧ (withReference (.steady .internal false) (some 0)).inFlight = none)
      ∧ look (setChannel 11 (.analog 1 []) (withReference (.steady .internal false) (some 0))).channels 11 ≠ .free
      ∧ (takesNew (withReference (.settling .internal 400 false) (some 0)) 0 0x22 0 [0]
        ∧ (withReference (.settling .internal 400 false) (some 0)).reference.state = .settling .internal 400 false) := by
  unfold takesNew
  decide +kernel

theorem test_hyp_ReferenceSettleEnds :
    (withReference (.settling .internal 1 true) none).reference.state = .settling .internal 1 true
      ∧ (withReference (.settling .external 1 true) (some 0)).reference.state = .settling .external 1 true := by
  decide +kernel

theorem test_hyp_TimebaseRole :
    (isOpen opened3 0 = true ∧ takesNew opened3 0 0x28 0 [] ∧ opened3.timebase.holder = none)
      ∧ (takesNew (planned .freeRun 0) 0 0x28 0 [] ∧ (planned .freeRun 0).timebase.holder = some 0
        ∧ takesNew (planned .freeRun 0) 0 0x29 0 [])
      ∧ (takesNew (planned .freeRun 0) 1 0x28 0 [] ∧ (0 : Port) ≠ 1 ∧ takesNew (planned .freeRun 0) 1 0x29 0 []
        ∧ (planned .freeRun 0).timebase.holder ≠ some 1) := by
  unfold takesNew
  decide +kernel

theorem test_hyp_FrameZeroStarts :
    ((planned (.hunting 0) 0).timebase.state = .hunting 0 ∧ (planned (.hunting 0) 0).inReset = false
        ∧ ((planned (.hunting 0) 0).activePlan.map fun x => x.slot.id).Nodup)
      ∧ ((planned (.hunting 8000) 0).timebase.state = .hunting 8000
        ∧ 4 * (planned (.hunting 8000) 0).activeTiming.frameLength ≤ 8000) := by
  decide +kernel

theorem test_hyp_SyncEdgeInFrame :
    ((planned .freeRun 0).inReset = false ∧ (planned .freeRun 0).timebase.state = .freeRun)
      ∧ ((planned .locked 1983).timebase.state = .locked ∧ (planned .locked 1983).timebase.boundaryDue = false
        ∧ 1983 < (planned .locked 1983).activeTiming.frameLength - (planned .locked 1983).activeTiming.window)
      ∧ ((planned .flywheel 1984).timebase.state = .flywheel ∧ idPoolLawful (planned .flywheel 1984)
        ∧ (planned .flywheel 1984).activeTiming.frameLength - (planned .flywheel 1984).activeTiming.window ≤ 1984)
      ∧ ((atBoundary .locked 2015).timebase.boundaryDue = true ∧ (atBoundary .locked 2015).timebase.elapsed + 1 = 2016)
      ∧ opened3.timebase.state = .stopped := by
  unfold idPoolLawful
  decide +kernel

theorem test_hyp_FrameBoundaryCounted :
    (idPoolLawful (atBoundary .freeRun 1999) ∧ (atBoundary .freeRun 1999).timebase.boundaryDue = true
        ∧ (atBoundary .freeRun 1999).timebase.state = .freeRun ∧ (atBoundary .freeRun 1999).nextPlan ≠ [])
      ∧ (idPoolLawful (atBoundary .locked 2015) ∧ (atBoundary .locked 2015).timebase.state = .locked
        ∧ (atBoundary .locked 2015).timebase.missCount = 2)
      ∧ ({ atBoundary .flywheel 1999 with nextPlan := [] } : State).nextPlan = [] := by
  unfold idPoolLawful
  decide +kernel

theorem test_hyp_PhaseArrivalTable :
    (running (planned .freeRun 111) = true
        ∧ (planned .freeRun 111).activePlan
          = [ActiveSlot.fresh (testSlot 0 100)] ++ ActiveSlot.fresh (testSlot 1 111) :: []
        ∧ ((planned .freeRun 111).activePlan.map fun x => x.slot.id).Nodup
        ∧ (∀ x ∈ [ActiveSlot.fresh (testSlot 0 100)], x.slot.phase ≠ 111)
        ∧ (testSlot 1 111).phase = (planned .freeRun 111).timebase.elapsed
        ∧ (ActiveSlot.fresh (testSlot 1 111)).arrived = false ∧ (ActiveSlot.fresh (testSlot 1 111)).void = false
        ∧ (planned .freeRun 111).timebase.frameNumber.toNat % 1 = 0)
      ∧ (3 : Half).toNat % 2 ≠ 0
      ∧ (planned .freeRun 111).reference.state = .steady .internal false := by
  decide +kernel

theorem test_hyp_PhaseArrival_notSteady :
    ∀ r : Ref, (withReference (.settling .external 1 false) none).reference.state ≠ .steady r false := nofun

/-! ### Witnesses: the plans -/

theorem test_hyp_PlanFeasibilityAndGap :
    (planned .freeRun 0).nextPlan = [] ++ testSlot 0 100 :: testSlot 1 111 :: []
      ∧ (planned .freeRun 0).nextPlan = [testSlot 0 100] ++ [testSlot 1 111]
      ∧ feasible State.reset.nextTiming (planned .freeRun 0).nextPlan = true := by
  decide +kernel

theorem test_hyp_StageAddReservesId :
    (isOpen opened3 0 = true ∧ takesNew opened3 0 0x30 0 [14, 0, 0, 2, 8, 1, 0] ∧ 65534 < be16 0xFF 0xFF
        ∧ (1 : Byte).toNat < 2 ∧ 32 < (33 : Byte).toNat ∧ 16 < (17 : Byte).toNat ∧ (1 : Byte).toNat ≤ (1 : Byte).toNat)
      ∧ (takesNew opened3 0 0x30 0 [13, 0xFF, 0xFE, 32, 12, 16, 15] ∧ (12 : Byte).toNat = Resolution.bits12.bits
        ∧ be16 0xFF 0xFE ≤ 65534 ∧ (15 : Byte).toNat < (16 : Byte).toNat
        ∧ (look opened3.channels 13).owner ≠ some 0)
      ∧ (look (withChannel 0 (.settling 0 1 false)).channels 0).owner = some 0
      ∧ (takesNew (staged 0 (List.replicate 8 (.drop 0)) (planned .freeRun 0)) 0 0x30 0 [0, 0, 0, 2, 8, 1, 0]
        ∧ 8 ≤ (look (staged 0 (List.replicate 8 (.drop 0)) (planned .freeRun 0)).staging 0).length)
      ∧ (look (planned .freeRun 0).channels 0 = .analog 0 [1] ∧ (look (planned .freeRun 0).staging 0).length < 8
        ∧ isFreeId (planned .freeRun 0) 2 = true
        ∧ ∀ lower : SlotId, lower < 2 → isFreeId (planned .freeRun 0) lower = false) := by
  unfold takesNew
  decide +kernel

theorem test_hyp_StageAdd_notAnalog : ∀ subs : List Port, look (withChannel 0 (.settling 0 1 false)).channels 0 ≠ .analog 0 subs := by
  have h : look (withChannel 0 (.settling 0 1 false)).channels 0 = .settling 0 1 false := by decide +kernel
  rw [h]
  exact nofun

theorem test_hyp_StageMoveAndDrop :
    (isOpen opened3 0 = true ∧ takesNew opened3 0 0x31 0 [24, 0, 0] ∧ takesNew opened3 0 0x31 0 [0, 0xFF, 0xFF]
        ∧ takesNew opened3 0 0x32 0 [24])
      ∧ (takesNew opened3 0 0x31 0 [23, 0xFF, 0xFE] ∧ (23 : Byte).toNat = (23 : SlotId).val
        ∧ ∀ sl ∈ opened3.nextPlan, sl.id ≠ 23)
      ∧ (takesNew (planned .freeRun 0) 1 0x31 0 [0, 0, 0]
        ∧ (planned .freeRun 0).nextPlan.find? (fun x => x.id == 0) = some (testSlot 0 100) ∧ (testSlot 0 100).owner ≠ 1)
      ∧ (takesNew (planned .freeRun 0) 0 0x32 0 [0] ∧ (testSlot 0 100).owner = 0
        ∧ (look (planned .freeRun 0).staging 0).length < 8)
      ∧ (Edit.add (testSlot 5 0) ∈ look (staged 0 [.add (testSlot 5 0)] opened3).staging 0 ∧ (testSlot 5 0).id = 5)
      ∧ 8 ≤ (look (staged 0 (List.replicate 8 (.drop 0)) (planned .freeRun 0)).staging 0).length := by
  unfold takesNew
  decide +kernel

theorem test_hyp_StageMove_notReserved : ∀ sl, Edit.add sl ∈ look opened3.staging 0 → sl.id ≠ 23 := by
  have h : look opened3.staging 0 = [] := by decide +kernel
  rw [h]
  exact nofun

theorem test_hyp_StageTimingPlacesEdit :
    (isOpen opened3 0 = true ∧ takesNew opened3 0 0x33 0 [0, 199, 0, 0, 0] ∧ be16 0 199 < 200
        ∧ be16 0 200 / 8 < be16 0 26 ∧ 1 < (2 : Byte).toNat)
      ∧ (takesNew opened3 0 0x33 0 [0, 200, 1, 0, 25] ∧ 200 ≤ be16 0 200 ∧ be16 0 25 ≤ be16 0 200 / 8
        ∧ opened3.timebase.holder ≠ some 0)
      ∧ (takesNew (planned .freeRun 0) 0 0x33 0 [0, 200, 1, 0, 25] ∧ (planned .freeRun 0).timebase.holder = some 0
        ∧ (look (planned .freeRun 0).staging 0).length < 8)
      ∧ 8 ≤ (look (staged 0 (List.replicate 8 (.drop 0)) (planned .freeRun 0)).staging 0).length
      ∧ look (staged 0 ([.drop 0] ++ [.timing Timing.reset, .drop 1]) (planned .freeRun 0)).staging 0
        = [.drop 0] ++ .timing Timing.reset :: [.drop 1] := by
  unfold takesNew
  decide +kernel

theorem test_hyp_StageTiming_noTiming : ∀ t : Timing, Edit.timing t ∉ List.replicate 8 (Edit.drop 0) := by
  intro t h
  simp at h

theorem test_hyp_StageClearEmptiesArea : takesNew opened3 0 0x34 0 [] ∧ isOpen opened3 0 = true := by
  unfold takesNew
  decide +kernel

/-- Session 0 has staged a move of slot 1 to a phase. -/
def moving (st : TimebaseState) (phase : Nat) : State := staged 0 [.move 1 phase] (planned st 0)

theorem test_hyp_CommitRefused :
    (isOpen opened3 0 = true ∧ takesNew opened3 0 0x35 0 [9] ∧ 8 < (9 : Byte).toNat
        ∧ takesNew opened3 0 0x35 0 [1] ∧ (1 : Byte).toNat ≠ (look opened3.staging 0).length)
      ∧ (takesNew opened3 0 0x35 0 [0] ∧ look opened3.staging 0 = [])
      ∧ (takesNew (moving .freeRun 110) 0 0x35 0 [1] ∧ (1 : Byte).toNat = (look (moving .freeRun 110).staging 0).length
        ∧ look (moving .freeRun 110).staging 0 ≠ [])
      ∧ (applyEdits (staged 0 [.drop 9] opened3) 0 0 [.drop 9] { timing := Timing.reset, slots := [] }).toOption = none := by
  unfold takesNew
  decide +kernel

theorem test_hyp_Commit_infeasible :
    ∃ c, buildCopy (moving .freeRun 110) 0 = .ok c ∧ feasible c.timing c.slots = false := by
  refine ⟨{ timing := Timing.reset, slots := [testSlot 0 100, testSlot 1 110] }, rfl, ?_⟩
  decide +kernel

theorem test_hyp_Commit_building :
    buildCopy (staged 0 [.drop 9] opened3) 0 = .error (0, .notFound)
      ∧ (look (staged 0 [.drop 9] opened3).staging 0 = [] ++ Edit.drop 9 :: []
        ∧ editsApplied (staged 0 [.drop 9] opened3) 0 [] { timing := Timing.reset, slots := [] }
          { timing := Timing.reset, slots := [] })
      ∧ editsApplied (moving .freeRun 200) 0 [.move 1 200]
        { timing := Timing.reset, slots := [testSlot 0 100, testSlot 1 111] }
        { timing := Timing.reset, slots := [testSlot 0 100, testSlot 1 200] } :=
  ⟨rfl, ⟨rfl, rfl⟩, _, rfl, rfl⟩

theorem test_hyp_CommitNotedOrApplied :
    (takesNew (moving .freeRun 200) 0 0x35 0 [1] ∧ isOpen (moving .freeRun 200) 0 = true
        ∧ (1 : Byte).toNat = (look (moving .freeRun 200).staging 0).length
        ∧ look (moving .freeRun 200).staging 0 ≠ [] ∧ running (moving .freeRun 200) = true
        ∧ idPoolLawful (moving .freeRun 200))
      ∧ running (moving (.hunting 8000) 200) = false
      ∧ (moving (.hunting 8000) 200).timebase.state = .hunting 8000 ∧ 4 * Timing.reset.frameLength ≤ 8000
      ∧ (moving .stopped 200).timebase.state = .stopped := by
  unfold takesNew idPoolLawful
  decide +kernel

/-- Session 0 puts its plan under EXTERNAL timing with F = 200. -/
def retimed (st : TimebaseState) : State :=
  staged 0 [.timing { frameLength := 200, mode := .external, window := 0 }] (planned st 0)

theorem test_hyp_Commit_applied :
    (buildCopy (staged 0 [.drop 0, .drop 1] (planned .stopped 0)) 0 = .ok { timing := Timing.reset, slots := [] }
        ∧ feasible Timing.reset [] = true)
      ∧ (∀ st, buildCopy (retimed st) 0
          = .ok { timing := { frameLength := 200, mode := .external, window := 0 }
                  slots := [testSlot 0 100, testSlot 1 111] })
      ∧ feasible { frameLength := 200, mode := .external, window := 0 } [testSlot 0 100, testSlot 1 111] = true
      ∧ (799 < 4 * 200 ∧ 4 * 200 ≤ 800 ∧ (retimed (.hunting 800)).timebase.state = .hunting 800
        ∧ running (retimed (.hunting 799)) = false ∧ (retimed .stopped).timebase.state = .stopped) :=
  ⟨⟨rfl, by decide +kernel⟩, fun _ => rfl, by decide +kernel, by decide +kernel⟩

theorem test_hyp_Commit_feasible :
    ∃ c, buildCopy (moving .freeRun 200) 0 = .ok c ∧ feasible c.timing c.slots = true := by
  refine ⟨{ timing := Timing.reset, slots := [testSlot 0 100, testSlot 1 200] }, rfl, ?_⟩
  decide +kernel

/-! ### Witnesses: requests, the converter and the queues -/

/-- Session 0 has the given tags queued on channel 0. -/
def queued (tags : List Byte) : State := setRequests 0 (tags.map testEntry) (withChannel 0 (.analog 0 [1]))

theorem test_hyp_SubmitJoinsQueue :
    (isOpen opened3 0 = true ∧ takesNew opened3 0 0x40 0 [0, 14, 8, 2, 1] ∧ 14 ≤ (14 : Byte).toNat)
      ∧ ((3 : Byte).toNat ≠ 1 ∧ (3 : Byte).toNat ≠ 2 ∧ (3 : Byte).toNat ≠ 4 ∧ (3 : Byte).toNat ≠ 8)
      ∧ (takesNew opened3 0 0x40 0 [0, 13, 12, 32, 8] ∧ (12 : Byte).toNat = Resolution.bits12.bits
        ∧ (8 : Byte).toNat = Averaging.eight.count ∧ (look opened3.channels 13).owner ≠ some 0
        ∧ (0 : Port) ∉ (look opened3.channels 13).subscribers)
      ∧ (takesNew (queued [7]) 0 0x40 0 [7, 0, 8, 2, 1] ∧ look (queued [7]).channels 0 = .analog 0 [1]
        ∧ ∃ e ∈ look (queued [7]).requests 0, e.tag = 7)
      ∧ (takesNew (queued [1, 2, 3, 4, 5, 6, 7, 8]) 0 0x40 0 [9, 0, 8, 2, 1]
        ∧ (∀ e ∈ look (queued [1, 2, 3, 4, 5, 6, 7, 8]).requests 0, e.tag ≠ 9) ∧ (queued []).inFlight = none
        ∧ 8 ≤ (look (queued [1, 2, 3, 4, 5, 6, 7, 8]).requests 0).length)
      ∧ (activeGap (planned .freeRun 0) = some 1978 ∧ (look (planned .freeRun 0).requests 0).length < 8
        ∧ Averaging.one.count * (2 + Resolution.bits8.ticks) ≤ 1978)
      ∧ (activeGap (setStaging 0 [] { planned .freeRun 0 with
            activeTiming := { frameLength := 222, mode := .free, window := 0 } }) = some 200
        ∧ 200 < Averaging.eight.count * (32 + Resolution.bits12.ticks)) := by
  unfold takesNew
  decide +kernel

theorem test_hyp_CancelRemovesEntry :
    (isOpen (queued [1, 2]) 0 = true ∧ takesNew (queued [1, 2]) 0 0x41 0 [3]
        ∧ ∀ e ∈ look (queued [1, 2]).requests 0, e.tag ≠ 3)
      ∧ (look (queued [1, 2]).requests 0 = [] ++ testEntry 1 :: [testEntry 2] ∧ (testEntry 1).tag = 1
        ∧ ∀ x ∈ [testEntry 2], x.tag ≠ 1)
      ∧ look (queued [1, 2]).requests 0 = [testEntry 1] ++ testEntry 2 :: [] := by
  unfold takesNew
  decide +kernel

theorem test_hyp_Cancel_inFlight :
    ∃ f, ({ queued [] with inFlight := some (testFlight (.request 3)) } : State).inFlight = some f
      ∧ f.source = .request 3 ∧ f.session = 0 ∧ f.discard = false :=
  ⟨testFlight (.request 3), rfl, rfl, rfl, rfl⟩

/-- Slot 0 is PENDING. -/
def pendingSlot : ActiveSlot := { ActiveSlot.fresh (testSlot 0 100) with progress := .pending, arrived := true }

theorem test_hyp_ArbiterDecision :
    (sampling 0).inFlight.isSome = true
      ∧ ((queued [1]).inFlight = none ∧ (queued [1]).reference.state = .steady .internal false
        ∧ (∀ x ∈ (queued [1]).activePlan, x.progress ≠ .pending)
        ∧ [(queued [1]).pointer + 1, (queued [1]).pointer + 2, (queued [1]).pointer + 3, (queued [1]).pointer]
          = [] ++ (0 : Port) :: [1, 2, 3]
        ∧ look (queued [1]).requests 0 = testEntry 1 :: [] ∧ isOpen (queued [1]) 0 = true ∧ fits (queued [1]) (1 * (2 + 5)) = true)
      ∧ (({ planned .freeRun 120 with activePlan := [] ++ pendingSlot :: [ActiveSlot.fresh (testSlot 1 111)] } : State).activePlan
          = [] ++ pendingSlot :: [ActiveSlot.fresh (testSlot 1 111)]
        ∧ pendingSlot.progress = .pending ∧ running (planned .freeRun 120) = true) := by
  decide +kernel

/-- A head leaves its queue where it is gone, not where a later entry is gone or an entry joins (01 R15). -/
theorem test_headLeft :
    headLeft (queued [1, 2]).requests (queued [2]).requests = true
      ∧ headLeft (queued [1, 2]).requests (queued [1]).requests = false
      ∧ headLeft (queued []).requests (queued [1]).requests = false := by
  decide +kernel

theorem test_hyp_FitRule :
    running opened3 = false
      ∧ ((planned .freeRun 5).activePlan = [] ++ ActiveSlot.fresh (testSlot 0 100) :: [ActiveSlot.fresh (testSlot 1 111)]
        ∧ running (planned .freeRun 5) = true ∧ (ActiveSlot.fresh (testSlot 0 100)).void = false)
      ∧ ((∀ x ∈ [pendingSlot], x.void = true ∨ x.arrived = true)
        ∧ (planned .locked 5).nextPlan = testSlot 0 100 :: [testSlot 1 111] ∧ (planned .locked 5).timebase.state = .locked) := by
  decide +kernel

theorem test_hyp_SampleCodesAndMean :
    ((0 : Rat) ≤ 0 ∧ (0 : Rat) < 2048 / 1000) ∧ ((0 : Rat) < 2048 / 1000 ∧ (2048 / 1000 : Rat) ≤ 2048 / 1000)
      ∧ ((0 : Rat) < 1 ∧ (1 : Rat) < 2048 / 1000) := by norm_num

theorem test_hyp_SampleCodes_channels :
    (∀ (o : Port) (d : DigitalPart), ChannelRec.free ≠ .digital o d)
      ∧ (0 : Channel).val = (0 : Fin 12).val ∧ (11 : Channel).val = (11 : Fin 12).val
      ∧ (12 : Channel).val = 12 ∧ (13 : Channel).val = 13 := by
  exact ⟨fun _ _ => nofun, rfl, rfl, rfl, rfl⟩

/-- The conditions of a driven pin, of a pulled-up input and of a pin in ANALOG (02 R25). -/
theorem test_pinCondition :
    pinCondition (.digital 0 { direction := .output, pullUp := true, outputLevel := false })
        = { bufferConnected := true, pullUp := true, driven := some false }
      ∧ pinCondition (.digital 0 { direction := .input, pullUp := true, outputLevel := true })
        = { bufferConnected := true, pullUp := true, driven := none }
      ∧ pinCondition (.analog 0 []) = { bufferConnected := false, pullUp := false, driven := none } := by
  decide +kernel

theorem test_hyp_ConversionEndDelivers :
    (({ sampling 0 with clock := 11 } : State).inFlight = some (testFlight (.slot 0))
        ∧ (testFlight (.slot 0)).plannedEnd ≤ ({ sampling 0 with clock := 11 } : State).clock
        ∧ (testFlight (.slot 0)).source = .slot 0 ∧ (testFlight (.slot 0)).slotStands = true
        ∧ (testFlight (.slot 0)).discard = false ∧ (testFlight (.slot 0)).monitor = none)
      ∧ (withReference (.steady .external true) none).reference.state = .steady .external true
      ∧ ({ testFlight (.slot 0) with discard := true } : InFlight).discard = true
      ∧ (({ testFlight (.slot 0) with monitor := some 0 } : InFlight).monitor = some 0
        ∧ look (setMonitor 0 (some testMonitor) (sampling 0)).monitors 0 = some testMonitor) := by
  decide +kernel

/-- A result record, for the lengths of queues. -/
def testRecord : ResultRecord := removalRecord .internal .cancelledOnly (testEntry 1)

theorem test_hyp_QueueOverflowRules :
    (List.replicate 31 testRecord).length < 32 ∧ 32 ≤ (List.replicate 32 testRecord).length
      ∧ (look opened3.sessions 0).state = .opened testLease ∧ isOpen opened3 3 = false := by
  decide +kernel

theorem test_hyp_FetchRemovesFromHead :
    isOpen opened3 0 = true
      ∧ (takesNew opened3 0 0x48 0 [0] ∧ (0 : Byte).toNat < 1 ∧ takesNew opened3 0 0x48 0 [5] ∧ 4 < (5 : Byte).toNat)
      ∧ (takesNew (setResults 0 { records := [testRecord, testRecord], nextSequence := 2, overflow := 0 } opened3) 0 0x48 0 [1]
        ∧ (look (setResults 0 { records := [testRecord, testRecord], nextSequence := 2, overflow := 0 } opened3).results 0).records
          = [testRecord] ++ [testRecord]
        ∧ [testRecord].length = min (1 : Byte).toNat 2)
      ∧ (takesNew opened3 0 0x58 0 [0] ∧ takesNew opened3 0 0x58 0 [5] ∧ takesNew opened3 0 0x58 0 [4]
        ∧ (look opened3.events 0).records = [] ++ [] ∧ ([] : List EventRecord).length = min (4 : Byte).toNat 0) := by
  unfold takesNew
  decide +kernel

/-! ### Witnesses: monitors and laws -/

theorem test_hyp_MonitorAttachAndDetach :
    (isOpen opened3 0 = true ∧ takesNew opened3 0 0x50 0 [24, 0, 0, 0, 0, 1] ∧ 4095 < be16 0x10 0x00
        ∧ be16 0 0 < be16 0 1 ∧ (0 : Byte).toNat < 1 ∧ 8 < (9 : Byte).toNat)
      ∧ (takesNew opened3 0 0x50 0 [23, 0x0F, 0xFF, 0x0F, 0xFF, 8] ∧ be16 0x0F 0xFF ≤ 4095
        ∧ ∀ sl ∈ opened3.nextPlan, sl.id ≠ 23)
      ∧ (takesNew (planned .freeRun 0) 0 0x50 0 [0, 0, 0, 0, 0, 1]
        ∧ (planned .freeRun 0).nextPlan.find? (fun x => x.id == 0) = some (testSlot 0 100)
        ∧ look (planned .freeRun 0).monitors 0 = none)
      ∧ look (setMonitor 0 (some testMonitor) (planned .freeRun 0)).monitors 0 = some testMonitor
      ∧ (takesNew opened3 0 0x51 0 [8] ∧ takesNew opened3 0 0x51 0 [7] ∧ look opened3.monitors 7 = none)
      ∧ testMonitor.owner ≠ 1 := by
  unfold takesNew
  decide +kernel

theorem test_hyp_Monitor_unnamed : ∀ (m : MonitorId) (r : Monitor), look opened3.monitors m = some r → r.slot ≠ 0 := by
  intro m r h
  have hn : ∀ m : MonitorId, look opened3.monitors m = none := by decide +kernel
  rw [hn] at h
  cases h

theorem test_hyp_MonitorClassification :
    99 < testMonitor.lowLimit ∧ testMonitor.lowLimit ≤ 100 ∧ 100 ≤ testMonitor.highLimit ∧ testMonitor.highLimit < 4096
      ∧ Zone.inside ≠ testMonitor.zone ∧ testMonitor.candidate ≠ some .inside ∧ (1 : Nat) = testMonitor.filterCount
      ∧ (2 : Nat) ≠ testMonitor.filterCount := by
  decide +kernel

/-- The premises of the laws that steps keep hold of the reset state. -/
theorem test_hyp_StepKeepsLaws :
    queuesBounded State.reset ∧ sequencesConsecutive State.reset ∧ referenceChannelLawful State.reset
      ∧ holderLawful State.reset ∧ subscribersLawful State.reset ∧ plansHeld State.reset ∧ stoppedLawful State.reset
      ∧ plansFeasible State.reset ∧ idPoolLawful State.reset ∧ nextOf (step State.reset) ≠ none := by
  refine ⟨by unfold queuesBounded; decide +kernel, by unfold sequencesConsecutive; decide +kernel,
    by unfold referenceChannelLawful; decide +kernel, fun _ => Or.inl (by decide +kernel),
    by unfold subscribersLawful; decide +kernel, by unfold plansHeld; decide +kernel,
    by unfold stoppedLawful; decide +kernel, by unfold plansFeasible; decide +kernel,
    by unfold idPoolLawful; decide +kernel, by decide +kernel⟩

theorem test_hyp_StepKeepsLaws_converter : converterLawful State.reset ∧ inFlightLawful State.reset :=
  ⟨⟨fun _ _ _ _ => rfl, fun _ h => nomatch h⟩, fun _ h => nomatch h⟩

theorem test_hyp_StepKeepsLaws_tags : tagsDistinct State.reset :=
  fun p => ⟨by revert p; decide +kernel, fun _ h => nomatch h⟩

theorem test_hyp_StepKeepsLaws_timings : timingsLawful State.reset := by
  refine ⟨by unfold Timing.lawful; decide +kernel, by unfold Timing.lawful; decide +kernel, fun p t h => ?_⟩
  have hp : ∀ p : Port, look State.reset.staging p = [] := by decide +kernel
  rw [hp] at h
  cases h

theorem test_hyp_StepKeepsLaws_counts : timebaseCountsLawful State.reset ∧ countsInRange State.reset := by
  refine ⟨⟨by decide +kernel, by decide +kernel, fun _ h => (nomatch h), by decide +kernel, by decide +kernel,
    by decide +kernel⟩, fun ch o n due h => ?_, fun _ _ _ h => (nomatch h), fun p l h => ?_⟩
  · have hc : ∀ ch : Channel, look State.reset.channels ch = .free := by decide +kernel
    rw [hc] at h
    cases h
  · have hp : ∀ p : Port, (look State.reset.sessions p).state = .closed := by decide +kernel
    rw [hp] at h
    cases h

theorem test_hyp_StepKeepsLaws_monitors : monitorsDistinct State.reset := by
  intro m n a b h
  have hm : ∀ m : MonitorId, look State.reset.monitors m = none := by decide +kernel
  rw [hm] at h
  cases h

theorem test_hyp_StepKeepsLaws_ended : endedHoldNothing State.reset := by
  intro p _
  refine ⟨?_, ?_, ?_, ?_, ?_, ?_, ?_, ?_, ?_, ?_, ?_⟩
  all_goals try (revert p; decide +kernel)

end Sys2Proof.Machine
end

/-! What a request of an OPEN session answers, read off its block's decision, and what a channel argument names. -/

namespace Sys2Proof.Machine

/-- A channel byte of 14 or more names no channel (11 R193). -/
theorem channelArg_eq_none {c : Byte} (h : 14 ≤ c.toNat) : channelArg c = none :=
  dif_neg (Nat.not_lt.mpr h)

/-- A channel byte below 14 names the channel of that number (11 R193). -/
theorem channelArg_eq_some {c : Byte} {ch : Channel} (h : c.toNat = ch.val) : channelArg c = some ch :=
  (dif_pos (h.trans_lt ch.isLt)).trans (congrArg some (Fin.ext h))

section SessionRequest

variable {s : State} {p : Port} {code : Byte} {q : LinkSeq} {payload : List Byte} {n : Nat} {f : State → Decision}

/-- In an OPEN session a new request of the right length is answered as its block decides on the state of the taking. -/
theorem sessionRequest_answered {t : State} {a : Answer} (h : takesNew s p code q payload) (ho : isOpen s p = true)
    (hl : payload.length = n)
    (hf : f (taken s p code q payload) = ({ t with ports := (taken s p code q payload).ports }, a)) :
    takeRequest p q code n payload (inSession p f) s = .next (answered s t p code q payload a) := by
  have hs : isOpen (taken s p code q payload) p = true := by simpa using ho
  exact takeRequest_answered h hl ((inSession_open hs).trans hf)

/-- In an OPEN session a refusal by the owning block leaves only the port's own fields changed (R191, R192). -/
theorem sessionRequest_refused {st : Status} (h : takesNew s p code q payload) (ho : isOpen s p = true)
    (hl : payload.length = n) (hf : f (taken s p code q payload) = refuse st (taken s p code q payload)) :
    takeRequest p q code n payload (inSession p f) s = .next (answered s s p code q payload (.built st [])) :=
  sessionRequest_answered h ho hl hf

end SessionRequest

end Sys2Proof.Machine

/-! SUBSCRIBE: the claim table's decision case by case, and the answer of the port (02 R40). -/

namespace Sys2Proof.Machine

section SubscribeDecision

variable {s : State} {p o : Port} {c : Byte} {ch : Channel} {subs : List Port}

/-- A byte that names no channel is refused (R40). -/
theorem subscribeWith_noChannel (hc : channelArg c = none) : subscribeWith p [c] s = refuse .badArgument s := by
  simp only [subscribeWith, hc]

/-- A channel in any state but ANALOG has no subscriber list to join (R40). -/
theorem subscribeWith_notAnalog (hc : channelArg c = some ch) (hn : ∀ o subs, look s.channels ch ≠ .analog o subs) :
    subscribeWith p [c] s = refuse .wrongMode s := by
  simp only [subscribeWith, hc]
  cases hx : look s.channels ch with
  | analog o subs => exact absurd hx (hn o subs)
  | free | digital | settling | reference => rfl

/-- On an ANALOG channel the decision goes by the owner, the list and its length, in the order of the table (R40). -/
theorem subscribeWith_analog (hc : channelArg c = some ch) (hx : look s.channels ch = .analog o subs) :
    subscribeWith p [c] s =
      if o = p ∨ p ∈ subs then refuse .badArgument s
      else if 3 ≤ subs.length then refuse .full s
      else (setChannel ch (.analog o (subs ++ [p])) s, .built .ok [byte (subs.length + 1)]) := by
  simp only [subscribeWith, hc, hx, List.contains_iff_mem]
  by_cases ho : o = p
  · rw [if_pos ho, if_pos (Or.inl ho)]
  · rw [if_neg ho]
    simp only [ho, false_or]

end SubscribeDecision

section SubscribePort

variable {s : State} {p : Port} {q : LinkSeq} {c : Byte}

/-- A SUBSCRIBE that the claim table refuses changes nothing but its port. -/
theorem exec_subscribe_refused {st : Status} (h : takesNew s p 0x12 q [c]) (ho : isOpen s p = true)
    (hf : subscribeWith p [c] (taken s p 0x12 q [c]) = refuse st (taken s p 0x12 q [c])) :
    exec (.subscribe p q [c]) s = .next (answered s s p 0x12 q [c] (.built st [])) :=
  sessionRequest_refused h ho rfl hf

/-- A SUBSCRIBE that the claim table accepts writes the channel and its port. -/
theorem exec_subscribe_joins {ch : Channel} {x : ChannelRec} {a : Answer} (h : takesNew s p 0x12 q [c])
    (ho : isOpen s p = true)
    (hf : subscribeWith p [c] (taken s p 0x12 q [c]) = (setChannel ch x (taken s p 0x12 q [c]), a)) :
    exec (.subscribe p q [c]) s =
      .next (answered s { s with channels := put s.channels ch x } p 0x12 q [c] a) :=
  sessionRequest_answered h ho rfl hf

end SubscribePort

/-- Settles O26, by the cases of the claim table's decision on the state in which the frame is taken. -/
theorem subscribeJoinsList : Obligations.SubscribeJoinsList := by
  intro p q c s h ho
  refine ⟨fun hc => exec_subscribe_refused h ho (subscribeWith_noChannel (channelArg_eq_none hc)), fun ch hc => ?_⟩
  have hch : channelArg c = some ch := channelArg_eq_some hc
  refine ⟨fun hn => exec_subscribe_refused h ho (subscribeWith_notAnalog hch hn), fun o subs hx => ?_⟩
  have hd := subscribeWith_analog (s := taken s p 0x12 q [c]) (p := p) hch hx
  refine ⟨fun hin => ?_, fun hne hnot hfull => ?_, fun hne hnot hroom => ?_⟩
  · rw [if_pos hin] at hd
    exact exec_subscribe_refused h ho hd
  · rw [if_neg (not_or.mpr ⟨hne, hnot⟩), if_pos hfull] at hd
    exact exec_subscribe_refused h ho hd
  · rw [if_neg (not_or.mpr ⟨hne, hnot⟩), if_neg (Nat.not_le.mpr hroom)] at hd
    exact exec_subscribe_joins h ho hd

end Sys2Proof.Machine

/-! The reference switch: what the shared operations of 03 R54 to R56 write, by the state of the record. -/

namespace Sys2Proof.Machine

section SwitchWrites

variable {s : State} {r : Ref}

/-- A switch taken from INTERNAL with the converter IDLE: channel 11 enters REFERENCE and the settle begins (R54). -/
theorem takeSwitch_internal_idle (hi : s.inFlight = none) :
    takeSwitch .internal s = { s with
      reference := { s.reference with state := .settling .external 400 false }
      channels := put s.channels 11 .reference } := by
  simp [takeSwitch, hi, setRefState, setChannel, settleToward, Ref.other]

/-- A switch taken from INTERNAL while the converter is CONVERTING waits, with channel 11 already in REFERENCE (R54). -/
theorem takeSwitch_internal_converting (hi : s.inFlight ≠ none) :
    takeSwitch .internal s = { s with
      reference := { s.reference with state := .steady .internal true }
      channels := put s.channels 11 .reference } := by
  simp [takeSwitch, hi, setRefState, setChannel]

/-- A switch taken from EXTERNAL with the converter IDLE: the settle begins (R54). -/
theorem takeSwitch_external_idle (hi : s.inFlight = none) :
    takeSwitch .external s = { s with
      reference := { s.reference with state := .settling .internal 400 false } } := by
  simp [takeSwitch, hi, setRefState, settleToward, Ref.other]

/-- A switch taken from EXTERNAL while the converter is CONVERTING waits (R54). -/
theorem takeSwitch_external_converting (hi : s.inFlight ≠ none) :
    takeSwitch .external s = { s with reference := { s.reference with state := .steady .external true } } := by
  simp [takeSwitch, hi, setRefState]

/-- A withdrawn switch to EXTERNAL gives channel 11 back (R55). -/
theorem withdrawSwitch_internal :
    withdrawSwitch .internal s = { s with
      reference := { s.reference with state := .steady .internal false }
      channels := put s.channels 11 .free } := rfl

/-- A settle under way that turns begins anew toward the other reference (R55). -/
theorem setRefState_settleToward :
    setRefState (settleToward r) s = { s with
      reference := { s.reference with state := .settling r 400 false } } := rfl

/-- Where the unit is INTERNAL or heading toward it, the loss of the holder only empties the role (R56). -/
theorem loseHolder_keeps {x : RefState} (hx : s.reference.state = x) (hr : reverts x = false) :
    loseHolder s = { s with reference := { state := x, holder := none } } := by
  match x, hr with
  | .steady .internal false, _ | .steady .external true, _ | .settling .internal _ _, _ =>
    simp only [loseHolder, revertSwitch, hx]

/-- A switch to EXTERNAL that waits for its settle is withdrawn at the loss of the holder (R56). -/
theorem loseHolder_withdraws (hx : s.reference.state = .steady .internal true) :
    loseHolder s = { s with
      reference := { state := .steady .internal false, holder := none }
      channels := put s.channels 11 .free } := by
  simp only [loseHolder, revertSwitch, hx, withdrawSwitch_internal]

/-- The loss of the holder in EXTERNAL takes a switch to INTERNAL, whose settle begins at once in IDLE (R56). -/
theorem loseHolder_takes_idle (hx : s.reference.state = .steady .external false) (hi : s.inFlight = none) :
    loseHolder s = { s with reference := { state := .settling .internal 400 false, holder := none } } := by
  simp only [loseHolder, revertSwitch, hx]
  exact takeSwitch_external_idle hi

/-- The loss of the holder in EXTERNAL takes a switch to INTERNAL, which waits for the conversion in flight (R56). -/
theorem loseHolder_takes_converting (hx : s.reference.state = .steady .external false) (hi : s.inFlight ≠ none) :
    loseHolder s = { s with reference := { state := .steady .external true, holder := none } } := by
  simp only [loseHolder, revertSwitch, hx]
  exact takeSwitch_external_converting hi

/-- A settle toward EXTERNAL turns at the loss of the holder (R56). -/
theorem loseHolder_turns {n : Nat} {due : Bool} (hx : s.reference.state = .settling .external n due) :
    loseHolder s = { s with reference := { state := .settling .internal 400 false, holder := none } } := by
  simp only [loseHolder, revertSwitch, hx, setRefState_settleToward]

end SwitchWrites

end Sys2Proof.Machine

/-! CLAIM_REFERENCE and RELEASE_REFERENCE: the role with its holder, and the answer of the port (03 R51, R52). -/

namespace Sys2Proof.Machine

section ReferenceRole

variable {s : State} {p o : Port} {q : LinkSeq}

/-- The free role goes to the session that asks (R51). -/
theorem claimReferenceWith_free (hh : s.reference.holder = none) :
    claimReferenceWith p s =
      ({ s with reference := { s.reference with holder := some p } }, .built .ok (refTriple s.reference.state)) := by
  simp only [claimReferenceWith, hh]

/-- A role that is held stays with its holder, and the answer says whether that is the session that asks (R51). -/
theorem claimReferenceWith_held (hh : s.reference.holder = some o) :
    claimReferenceWith p s = (s, .built (if o = p then .ok else .inUse) (refTriple s.reference.state)) := by
  simp only [claimReferenceWith, hh]
  split <;> rfl

/-- A CLAIM_REFERENCE of a role that is held changes nothing but its port. -/
theorem exec_claimReference_held (h : takesNew s p 0x20 q []) (ho : isOpen s p = true)
    (hh : s.reference.holder = some o) :
    exec (.claimReference p q []) s = .next (answered s s p 0x20 q []
      (.built (if o = p then .ok else .inUse) (refTriple s.reference.state))) :=
  sessionRequest_answered h ho rfl (claimReferenceWith_held hh)

/-- A session that does not hold the role cannot give it up (R52). -/
theorem exec_releaseReference_refused (h : takesNew s p 0x21 q []) (ho : isOpen s p = true)
    (hh : s.reference.holder ≠ some p) :
    exec (.releaseReference p q []) s = .next (answered s s p 0x21 q [] (.built .notOwner [])) :=
  sessionRequest_refused h ho rfl (if_neg hh)

/-- A RELEASE_REFERENCE of the holder has the effect of the loss of the holder, and answers whether that switched, with the
record after it (R52). -/
theorem exec_releaseReference_released {t : State} {x : RefState} {bytes : List Byte} (h : takesNew s p 0x21 q [])
    (ho : isOpen s p = true) (hh : s.reference.holder = some p) (hx : s.reference.state = x)
    (hl : loseHolder (taken s p 0x21 q []) = { t with ports := (taken s p 0x21 q []).ports })
    (hb : flag (reverts x) :: refTriple t.reference.state = bytes) :
    exec (.releaseReference p q []) s = .next (answered s t p 0x21 q [] (.built .ok bytes)) := by
  refine sessionRequest_answered h ho rfl ?_
  subst hx hb
  simp only [releaseReferenceWith, taken_reference, if_pos hh, hl]

end ReferenceRole

/-- Settles O30: the claim by the holder of the role, the release by the state of the record and the converter. -/
theorem referenceRole : Obligations.ReferenceRole := by
  refine ⟨⟨rfl, rfl, rfl, rfl, fun _ _ => ⟨rfl, rfl⟩⟩, fun p q s ho => ⟨fun h => ?_, fun h => ?_⟩⟩
  · refine ⟨fun hh => sessionRequest_answered h ho rfl (claimReferenceWith_free hh), fun hh => ?_, fun o hh hne => ?_⟩
    · rw [exec_claimReference_held h ho hh, if_pos rfl]
    · rw [exec_claimReference_held h ho hh, if_neg hne]
  · refine ⟨exec_releaseReference_refused h ho, fun hh => ?_⟩
    refine ⟨fun hx => ?_, fun hx => ?_, fun hx hi => ?_, fun hx hi => ?_, fun hx => ?_, fun n due hx => ?_,
      fun n due hx => ?_⟩
    · exact exec_releaseReference_released h ho hh hx (loseHolder_keeps hx rfl) rfl
    · exact exec_releaseReference_released h ho hh hx (loseHolder_withdraws hx) rfl
    · exact exec_releaseReference_released h ho hh hx (loseHolder_takes_idle hx hi) rfl
    · exact exec_releaseReference_released h ho hh hx (loseHolder_takes_converting hx hi) rfl
    · exact exec_releaseReference_released h ho hh hx (loseHolder_keeps hx rfl) rfl
    · exact exec_releaseReference_released h ho hh hx (loseHolder_turns hx) rfl
    · exact exec_releaseReference_released h ho hh hx (loseHolder_keeps hx rfl) rfl

end Sys2Proof.Machine

/-! SELECT_REFERENCE: the holder's decision for either argument, and the answer of the port (03 R53). -/

namespace Sys2Proof.Machine

/-- A byte above 1 names no reference (11 R193). -/
theorem referenceArg_eq_none {b : Byte} (h : 1 < b.toNat) : referenceArg b = none := by
  have h0 : b.toNat ≠ 0 := by omega
  have h1 : b.toNat ≠ 1 := by omega
  simp only [referenceArg, flagArg, if_neg h0, if_neg h1, Option.map_none]

/-- The bytes 0 and 1 name a reference (11 R193). -/
theorem referenceArg_isSome {b : Byte} (h : b.toNat ≤ 1) : ∃ r, referenceArg b = some r := by
  obtain h0 | h1 : b.toNat = 0 ∨ b.toNat = 1 := by omega
  · exact ⟨.internal, by simp [referenceArg, flagArg, h0]⟩
  · exact ⟨.external, by simp [referenceArg, flagArg, h1]⟩

/-- The holder's SELECT_REFERENCE with the argument `r` (R53). -/
def selectToward : Ref → State → Decision
  | .external => selectExternal
  | .internal => selectInternal

section SelectDecision

variable {s : State} {p : Port} {b : Byte} {r : Ref} {n : Nat} {due : Bool}

/-- A byte that names no reference is refused (R53). -/
theorem selectReferenceWith_noReference (hb : referenceArg b = none) :
    selectReferenceWith p [b] s = refuse .badArgument s := by
  simp only [selectReferenceWith, hb]

/-- A session that does not hold the role is refused (R53). -/
theorem selectReferenceWith_notHolder (hb : referenceArg b = some r) (hh : s.reference.holder ≠ some p) :
    selectReferenceWith p [b] s = refuse .notOwner s := by
  simp only [selectReferenceWith, hb, if_neg hh]

/-- The holder's request goes by its argument (R53). -/
theorem selectReferenceWith_holder (hb : referenceArg b = some r) (hh : s.reference.holder = some p) :
    selectReferenceWith p [b] s = selectToward r s := by
  simp only [selectReferenceWith, hb, if_pos hh]
  cases r <;> rfl

/-- The reference in use is selected already (R53). -/
theorem selectToward_inUse (hx : s.reference.state = .steady r false) : selectToward r s = selected .ok s := by
  cases r <;> simp only [selectToward, selectExternal, selectInternal, hx]

/-- A switch toward the reference that waits for its settle goes on (R53). -/
theorem selectToward_waiting (hx : s.reference.state = .steady r.other true) :
    selectToward r s = selected .accepted s := by
  cases r <;> simp only [selectToward, selectExternal, selectInternal, hx, Ref.other]

/-- A settle toward the reference goes on (R53). -/
theorem selectToward_settling (hx : s.reference.state = .settling r n due) :
    selectToward r s = selected .accepted s := by
  cases r <;> simp only [selectToward, selectExternal, selectInternal, hx]

/-- A switch away from the reference that waits for its settle is withdrawn (R53, R55). -/
theorem selectToward_withdraws (hx : s.reference.state = .steady r true) :
    selectToward r s = selected .ok (withdrawSwitch r s) := by
  cases r <;> simp only [selectToward, selectExternal, selectInternal, hx]

/-- A settle away from the reference turns (R53, R55). -/
theorem selectToward_turns (hx : s.reference.state = .settling r.other n due) :
    selectToward r s = selected .accepted (setRefState (settleToward r) s) := by
  cases r <;> simp only [selectToward, selectExternal, selectInternal, hx, Ref.other]

/-- A switch away from the other reference in use is taken; toward EXTERNAL only where channel 11 is FREE (R53, R54). -/
theorem selectToward_takes {t : State} (hx : s.reference.state = .steady r.other false)
    (hc : r = .external → look s.channels 11 = .free) (ht : takeSwitch r.other s = t) :
    selectToward r s = selected .accepted t := by
  subst ht
  cases r with
  | internal => simp only [selectToward, selectInternal, hx, Ref.other]
  | external => simp only [selectToward, selectExternal, hx, hc rfl, Ref.other]

/-- From INTERNAL a switch to EXTERNAL is refused where channel 11 is not FREE (R53). -/
theorem selectToward_external_refused (hx : s.reference.state = .steady .internal false)
    (hc : look s.channels 11 ≠ .free) : selectToward .external s = refuse .inUse s := by
  simp only [selectToward, selectExternal, hx]
  cases hk : look s.channels 11 with
  | free => exact absurd hk hc
  | digital | settling | analog | reference => rfl

end SelectDecision

section SelectPort

variable {s : State} {p : Port} {q : LinkSeq} {b : Byte} {r : Ref}

/-- A SELECT_REFERENCE that the reference unit refuses changes nothing but its port. -/
theorem exec_selectReference_refused {st : Status} (h : takesNew s p 0x22 q [b]) (ho : isOpen s p = true)
    (hf : selectReferenceWith p [b] (taken s p 0x22 q [b]) = refuse st (taken s p 0x22 q [b])) :
    exec (.selectReference p q [b]) s = .next (answered s s p 0x22 q [b] (.built st [])) :=
  sessionRequest_refused h ho rfl hf

/-- The holder's SELECT_REFERENCE is answered as the table decides for its argument (R53). -/
theorem exec_selectReference_holder {t : State} {a : Answer} (h : takesNew s p 0x22 q [b]) (ho : isOpen s p = true)
    (hb : referenceArg b = some r) (hh : s.reference.holder = some p)
    (hd : selectToward r (taken s p 0x22 q [b]) = ({ t with ports := (taken s p 0x22 q [b]).ports }, a)) :
    exec (.selectReference p q [b]) s = .next (answered s t p 0x22 q [b] a) := by
  have hs := selectReferenceWith_holder (s := taken s p 0x22 q [b]) hb hh
  exact sessionRequest_answered h ho rfl (hs.trans hd)

/-- A request that is not refused is answered with the State, Switch Taken, Target and Settle Remaining of the record `x`
after it (R53). -/
theorem exec_selectReference_selected {t : State} {st : Status} {bytes : List Byte} (x : RefState)
    (h : takesNew s p 0x22 q [b]) (ho : isOpen s p = true) (hb : referenceArg b = some r)
    (hh : s.reference.holder = some p)
    (hd : selectToward r (taken s p 0x22 q [b]) = selected st { t with ports := (taken s p 0x22 q [b]).ports })
    (hx : t.reference.state = x) (hr : refTriple x ++ half x.remaining = bytes) :
    exec (.selectReference p q [b]) s = .next (answered s t p 0x22 q [b] (.built st bytes)) := by
  subst hx hr
  exact exec_selectReference_holder h ho hb hh hd

end SelectPort

/-- Settles O31, by the argument and the state of the record in which the frame is taken. -/
theorem selectReferenceTable : Obligations.SelectReferenceTable := by
  intro p q b s h ho
  refine ⟨fun hb => ?_, fun hb hn => ?_, fun hh => ?_⟩
  · exact exec_selectReference_refused h ho (selectReferenceWith_noReference (referenceArg_eq_none hb))
  · obtain ⟨r, hr⟩ := referenceArg_isSome hb
    exact exec_selectReference_refused h ho (selectReferenceWith_notHolder hr hn)
  have external (hb : b = 1) : referenceArg b = some .external := hb ▸ rfl
  have internal (hb : b = 0) : referenceArg b = some .internal := hb ▸ rfl
  refine ⟨fun hb hx hc => ?_, fun hb hx hc hi => ?_, fun hb hx hc hi => ?_, fun hb hx => ?_, fun hb hx => ?_,
    fun hb hx => ?_, fun hb hx => ?_, fun hb hx hi => ?_, fun hb hx hi => ?_, fun hb hx => ?_, fun hb hx => ?_,
    fun n due hb hx => ?_, fun n due hb hx => ?_, fun n due hb hx => ?_, fun n due hb hx => ?_⟩
  · exact exec_selectReference_holder h ho (external hb) hh (selectToward_external_refused hx hc)
  · exact exec_selectReference_selected (.settling .external 400 false) h ho (external hb) hh
      (selectToward_takes hx (fun _ => hc) (takeSwitch_internal_idle hi)) rfl rfl
  · exact exec_selectReference_selected (.steady .internal true) h ho (external hb) hh
      (selectToward_takes hx (fun _ => hc) (takeSwitch_internal_converting hi)) rfl rfl
  · exact exec_selectReference_selected _ h ho (internal hb) hh (selectToward_inUse hx) hx rfl
  · exact exec_selectReference_selected _ h ho (external hb) hh (selectToward_waiting hx) hx rfl
  · exact exec_selectReference_selected (.steady .internal false) h ho (internal hb) hh
      (selectToward_withdraws hx) rfl rfl
  · exact exec_selectReference_selected _ h ho (external hb) hh (selectToward_inUse hx) hx rfl
  · exact exec_selectReference_selected (.settling .internal 400 false) h ho (internal hb) hh
      (selectToward_takes hx nofun (takeSwitch_external_idle hi)) rfl rfl
  · exact exec_selectReference_selected (.steady .external true) h ho (internal hb) hh
      (selectToward_takes hx nofun (takeSwitch_external_converting hi)) rfl rfl
  · exact exec_selectReference_selected (.steady .external false) h ho (external hb) hh
      (selectToward_withdraws hx) rfl rfl
  · exact exec_selectReference_selected _ h ho (internal hb) hh (selectToward_waiting hx) hx rfl
  · exact exec_selectReference_selected _ h ho (external hb) hh (selectToward_settling hx) hx rfl
  · exact exec_selectReference_selected (.settling .internal 400 false) h ho (internal hb) hh
      (selectToward_turns hx) rfl rfl
  · exact exec_selectReference_selected (.settling .external 400 false) h ho (external hb) hh
      (selectToward_turns hx) rfl rfl
  · exact exec_selectReference_selected _ h ho (internal hb) hh (selectToward_settling hx) hx rfl

end Sys2Proof.Machine

/-! CLAIM_TIMEBASE and RELEASE_TIMEBASE: the role with its holder, and the answer of the port (04 R78, R79). -/

namespace Sys2Proof.Machine

/-- A role that is held is shown as the flag 1 and its holder's port (R78). -/
theorem holderPair_some (o : Port) : holderPair (some o) = [1, byte o.val] := rfl

section TimebaseDecision

variable {s : State} {p o : Port}

/-- The free role goes to the session that asks (R78). -/
theorem claimTimebaseWith_free (hh : s.timebase.holder = none) :
    claimTimebaseWith p s =
      ({ s with timebase := { s.timebase with holder := some p } }, .built .ok [1, byte p.val]) := by
  simp only [claimTimebaseWith, hh, holderPair_some]

/-- A role that is held stays with its holder, and the answer says whether that is the session that asks (R78). -/
theorem claimTimebaseWith_held (hh : s.timebase.holder = some o) :
    claimTimebaseWith p s = (s, .built (if o = p then .ok else .inUse) [1, byte o.val]) := by
  simp only [claimTimebaseWith, hh, holderPair_some]
  split <;> rfl

/-- The holder gives the role up, and the rest of the record stays (R79). -/
theorem releaseTimebaseWith_holder (hh : s.timebase.holder = some p) :
    releaseTimebaseWith p s = ({ s with timebase := { s.timebase with holder := none } }, .built .ok []) :=
  if_pos hh

/-- A session that does not hold the role cannot give it up, whether another session holds it or none does (R79). -/
theorem releaseTimebaseWith_notHolder (hh : s.timebase.holder ≠ some p) :
    releaseTimebaseWith p s = refuse .notOwner s :=
  if_neg hh

end TimebaseDecision

section TimebasePort

variable {s : State} {p o : Port} {q : LinkSeq}

/-- A CLAIM_TIMEBASE of the free role writes the Holder and its port. -/
theorem exec_claimTimebase_free (h : takesNew s p 0x28 q []) (ho : isOpen s p = true)
    (hh : s.timebase.holder = none) :
    exec (.claimTimebase p q []) s = .next (answered s
      { s with timebase := { s.timebase with holder := some p } } p 0x28 q [] (.built .ok [1, byte p.val])) :=
  sessionRequest_answered h ho rfl (claimTimebaseWith_free hh)

/-- A CLAIM_TIMEBASE of a role that is held changes nothing but its port. -/
theorem exec_claimTimebase_held (h : takesNew s p 0x28 q []) (ho : isOpen s p = true)
    (hh : s.timebase.holder = some o) :
    exec (.claimTimebase p q []) s = .next (answered s s p 0x28 q []
      (.built (if o = p then .ok else .inUse) [1, byte o.val])) :=
  sessionRequest_answered h ho rfl (claimTimebaseWith_held hh)

/-- The holder's RELEASE_TIMEBASE writes the Holder and its port. -/
theorem exec_releaseTimebase_holder (h : takesNew s p 0x29 q []) (ho : isOpen s p = true)
    (hh : s.timebase.holder = some p) :
    exec (.releaseTimebase p q []) s = .next (answered s
      { s with timebase := { s.timebase with holder := none } } p 0x29 q [] (.built .ok [])) :=
  sessionRequest_answered h ho rfl (releaseTimebaseWith_holder hh)

/-- A RELEASE_TIMEBASE of any other session changes nothing but its port. -/
theorem exec_releaseTimebase_notHolder (h : takesNew s p 0x29 q []) (ho : isOpen s p = true)
    (hh : s.timebase.holder ≠ some p) :
    exec (.releaseTimebase p q []) s = .next (answered s s p 0x29 q [] (.built .notOwner [])) :=
  sessionRequest_refused h ho rfl (releaseTimebaseWith_notHolder hh)

end TimebasePort

/-- Settles O33, by the holder of the role in the state in which the frame is taken. -/
theorem timebaseRole : Obligations.TimebaseRole := by
  intro p q s ho
  refine ⟨fun h => ⟨exec_claimTimebase_free h ho, fun hh => ?_, fun o hh hne => ?_⟩,
    fun h => ⟨exec_releaseTimebase_holder h ho, exec_releaseTimebase_notHolder h ho⟩⟩
  · rw [exec_claimTimebase_held h ho hh, if_pos rfl]
  · rw [exec_claimTimebase_held h ho hh, if_neg hne]

end Sys2Proof.Machine

/-! Feasibility and the largest gap: a plan in phase order read by its neighbouring slots and its last slot (05 R87, R88). -/

namespace Sys2Proof.Machine

section Gaps

variable {t : Timing} {slots rest : List Slot} {a z : Slot} {g : Nat}

/-- Condition 1 of R87 is a chain: each slot ends at or before the phase of its neighbour. -/
theorem followsOn_iff_isChain : followsOn slots = true ↔ slots.IsChain fun x y => x.ends ≤ y.phase := by
  induction slots using followsOn.induct with
  | case1 => simp [followsOn]
  | case2 => simp [followsOn]
  | case3 x y rest ih => rw [followsOn, Bool.and_eq_true, decide_eq_true_iff, ih, List.isChain_cons_cons]

/-- The four conditions of R87, with the last slot named by its place in the list. -/
theorem feasible_iff :
    feasible t slots = true
      ↔ (∀ before x y after, slots = before ++ x :: y :: after → x.ends ≤ y.phase)
        ∧ (∀ before x, slots = before ++ [x] → x.ends ≤ t.limit)
        ∧ (∀ x ∈ slots, x.phase < t.frameLength)
        ∧ t.window ≤ t.frameLength / 8 := by
  have hchain : followsOn slots = true ↔ ∀ before x y after, slots = before ++ x :: y :: after → x.ends ≤ y.phase := by
    rw [followsOn_iff_isChain, List.isChain_iff_forall_rel_of_append_cons_cons]
    exact ⟨fun h before x y after => @h x y before after, fun h x y before after => h before x y after⟩
  have hlast : (∀ before x, slots = before ++ [x] → x.ends ≤ t.limit)
      ↔ ∀ x, slots.getLast? = some x → x.ends ≤ t.limit := by
    simp only [List.getLast?_eq_some_iff]
    exact ⟨fun h x ⟨before, hx⟩ => h before x hx, fun h before x hx => h x ⟨before, hx⟩⟩
  rw [hlast, ← hchain]
  unfold feasible
  cases slots.getLast? <;> simp [and_assoc]

/-- The inner gaps are the distances between neighbouring slots (R88). -/
theorem mem_innerGaps :
    g ∈ innerGaps slots ↔ ∃ before x y after, slots = before ++ x :: y :: after ∧ g = y.phase - x.ends := by
  induction slots using innerGaps.induct with
  | case1 => simp [innerGaps]
  | case2 x => simp [innerGaps, List.singleton_eq_append_iff]
  | case3 x y rest ih =>
    rw [innerGaps, List.mem_cons, ih]
    constructor
    · rintro (hg | ⟨before, v, w, after, hs, hg⟩)
      · exact ⟨[], x, y, rest, rfl, hg⟩
      · exact ⟨x :: before, v, w, after, congrArg (x :: ·) hs, hg⟩
    · rintro ⟨_ | ⟨u, before⟩, v, w, after, hs, hg⟩
      · obtain ⟨rfl, rfl, rfl⟩ : x = v ∧ y = w ∧ rest = after := by simpa using hs
        exact .inl hg
      · exact .inr ⟨before, v, w, after, (List.cons.inj hs).2, hg⟩

/-- The largest gap is the maximum of the wrap gap and the inner gaps (R88). -/
theorem largestGap_eq_max? (hz : (a :: rest).getLast? = some z) :
    largestGap t (a :: rest) = ((t.limit + a.phase - z.ends) :: innerGaps (a :: rest)).max? := by
  simp only [largestGap, List.head?_cons, hz, List.max?_cons']

/-- The largest gap is one of the gaps, and none of them is greater (R88). -/
theorem exists_largestGap (hz : (a :: rest).getLast? = some z) :
    ∃ g, largestGap t (a :: rest) = some g
      ∧ (g = t.limit + a.phase - z.ends ∨ g ∈ innerGaps (a :: rest))
      ∧ t.limit + a.phase - z.ends ≤ g ∧ ∀ x ∈ innerGaps (a :: rest), x ≤ g := by
  have hmax := largestGap_eq_max? (t := t) hz
  obtain ⟨g, hg⟩ : ∃ g, largestGap t (a :: rest) = some g := ⟨_, hmax.trans List.max?_cons'⟩
  obtain ⟨hmem, hle⟩ := List.max?_eq_some_iff.mp (hmax.symm.trans hg)
  obtain ⟨hwrap, hinner⟩ := List.forall_mem_cons.mp hle
  exact ⟨g, hg, List.mem_cons.mp hmem, hwrap, hinner⟩

end Gaps

/-- Settles O38: feasibility condition by condition, and the largest gap as the maximum of the gaps. -/
theorem planFeasibilityAndGap : Obligations.PlanFeasibilityAndGap := by
  refine ⟨fun t slots => feasible_iff, fun t => ⟨rfl, fun a rest => ?_⟩⟩
  obtain ⟨z, hz⟩ : ∃ z, (a :: rest).getLast? = some z := ⟨_, List.getLast?_cons⟩
  obtain ⟨front, hfront⟩ := List.getLast?_eq_some_iff.mp hz
  obtain ⟨g, hg, hattained, hwrap, hinner⟩ := exists_largestGap (t := t) hz
  refine ⟨g, hg, fun before x y after hs => hinner _ (mem_innerGaps.mpr ⟨before, x, y, after, hs, rfl⟩),
    fun before last hs => ?_, ?_⟩
  · obtain rfl : last = z := Option.some.inj ((List.getLast?_eq_some_iff.mpr ⟨before, hs⟩).symm.trans hz)
    exact hwrap
  · rcases hattained with hw | hi
    · exact .inr ⟨front, z, hfront, hw⟩
    · exact .inl (mem_innerGaps.mp hi)

end Sys2Proof.Machine

/-! STAGE_TIMING: the arguments and their ranges, the place of the TIMING edit, and the answer of the port (05 R93). -/

namespace Sys2Proof.Machine

/-- A two-byte field is at most 65,535 (11 R186). -/
theorem be16_le (hi lo : Byte) : be16 hi lo ≤ 65535 := by
  have hhi := hi.isLt
  have hlo := lo.isLt
  unfold be16
  omega

theorem within_eq_some {lo hi n : Nat} (hl : lo ≤ n) (hh : n ≤ hi) : within lo hi n = some n :=
  if_pos ⟨hl, hh⟩

theorem within_eq_none {lo hi n : Nat} (h : n < lo ∨ hi < n) : within lo hi n = none :=
  if_neg (by omega)

/-- A byte above 1 is no timing mode (04 R63). -/
theorem timingModeArg_eq_none {m : Byte} (h : 1 < m.toNat) : timingModeArg m = none := by
  have h0 : m.toNat ≠ 0 := by omega
  have h1 : m.toNat ≠ 1 := by omega
  simp only [timingModeArg, flagArg, if_neg h0, if_neg h1, Option.map_none]

/-- The timing modes: 0 FREE, 1 EXTERNAL (04 R63). -/
theorem timingModeArg_eq_some {m : Byte} (h : m.toNat ≤ 1) :
    timingModeArg m = some (if m = 0 then .free else .external) := by
  obtain rfl | rfl : m = 0 ∨ m = 1 := by bv_omega
  · rfl
  · rfl

section TimingArguments

variable {fHi fLo m wHi wLo : Byte}

/-- The timing that arguments in range describe (R93). -/
theorem timingArgs_eq_some (hf : 200 ≤ be16 fHi fLo) (hm : m.toNat ≤ 1) (hw : be16 wHi wLo ≤ be16 fHi fLo / 8) :
    timingArgs fHi fLo m wHi wLo =
      some { frameLength := be16 fHi fLo, mode := if m = 0 then .free else .external, window := be16 wHi wLo } := by
  simp only [timingArgs, within_eq_some hf (be16_le fHi fLo), timingModeArg_eq_some hm,
    within_eq_some (Nat.zero_le _) hw, Option.bind_eq_bind, Option.bind_some]

/-- One argument out of its range, W against the F of the same edit, leaves no timing (R93). -/
theorem timingArgs_eq_none (h : be16 fHi fLo < 200 ∨ 1 < m.toNat ∨ be16 fHi fLo / 8 < be16 wHi wLo) :
    timingArgs fHi fLo m wHi wLo = none := by
  unfold timingArgs
  by_cases hf : be16 fHi fLo < 200
  · rw [within_eq_none (.inl hf)]
    rfl
  rw [within_eq_some (Nat.not_lt.mp hf) (be16_le fHi fLo)]
  by_cases hm : 1 < m.toNat
  · rw [timingModeArg_eq_none hm]
    rfl
  rw [timingModeArg_eq_some (Nat.not_lt.mp hm)]
  have hw : be16 fHi fLo / 8 < be16 wHi wLo := (h.resolve_left hf).resolve_left hm
  simp only [Option.bind_eq_bind, Option.bind_some, within_eq_none (.inr hw), Option.bind_none]

end TimingArguments

section TimingEdits

variable {edits before after : List Edit} {e : Edit} {t old : Timing}

/-- A list without a TIMING edit holds edits of the other kinds only. -/
theorem isTiming_eq_false (h : ∀ t, Edit.timing t ∉ edits) (he : e ∈ edits) : e.isTiming = false := by
  cases e with
  | timing t => exact absurd he (h t)
  | add | move | drop => rfl

theorem any_isTiming_eq_false (h : ∀ t, Edit.timing t ∉ edits) : edits.any Edit.isTiming = false :=
  List.any_eq_false.mpr fun _ he => Bool.not_eq_true _ ▸ isTiming_eq_false h he

/-- The staged edits with every TIMING edit replaced in its place (R93). -/
def withTiming (t : Timing) (edits : List Edit) : List Edit :=
  edits.map fun e => if e.isTiming then .timing t else e

theorem withTiming_eq_self (h : ∀ t, Edit.timing t ∉ edits) : withTiming t edits = edits := by
  refine (List.map_congr_left fun e he => ?_).trans (List.map_id edits)
  rw [isTiming_eq_false h he]
  rfl

/-- The only TIMING edit of a list is the one replaced (R93). -/
theorem withTiming_only (hb : ∀ t, Edit.timing t ∉ before) (ha : ∀ t, Edit.timing t ∉ after) :
    withTiming t (before ++ .timing old :: after) = before ++ .timing t :: after := by
  have hsplit : withTiming t (before ++ .timing old :: after)
      = withTiming t before ++ .timing t :: withTiming t after := List.map_append
  rw [hsplit, withTiming_eq_self hb, withTiming_eq_self ha]

/-- The edit index of the first TIMING edit is the number of edits before it (R93). -/
theorem findIdx_isTiming (hb : ∀ t, Edit.timing t ∉ before) :
    (before ++ .timing old :: after).findIdx Edit.isTiming = before.length := by
  have hf : before.findIdx Edit.isTiming = before.length :=
    List.findIdx_eq_length_of_false fun _ => isTiming_eq_false hb
  simp [List.findIdx_append, hf, List.findIdx_cons, Edit.isTiming]

end TimingEdits

section TimingDecision

variable {s : State} {p : Port} {t old : Timing} {before after : List Edit}

/-- Only the holder of the timebase stages a TIMING edit (R93). -/
theorem stageTimingRecord_notHolder (hh : s.timebase.holder ≠ some p) :
    stageTimingRecord p t s = refuse .notOwner s :=
  if_pos hh

/-- Eight edits with no TIMING edit among them leave no room for one (R90, R93). -/
theorem stageTimingRecord_full (hh : s.timebase.holder = some p) (hfull : 8 ≤ (look s.staging p).length)
    (hn : ∀ t, Edit.timing t ∉ look s.staging p) : stageTimingRecord p t s = refuse .full s := by
  simp [stageTimingRecord, hh, any_isTiming_eq_false hn, stagingFull, hfull]

/-- With room and no TIMING edit staged, the edit takes the tail (R93). -/
theorem stageTimingRecord_appends (hh : s.timebase.holder = some p) (hroom : (look s.staging p).length < 8)
    (hn : ∀ t, Edit.timing t ∉ look s.staging p) :
    stageTimingRecord p t s = appendEdit p (.timing t) [] s := by
  simp [stageTimingRecord, hh, any_isTiming_eq_false hn, stagingFull, hroom]

/-- The TIMING edit already staged gives way in its place, also in a full staging area (R93). -/
theorem stageTimingRecord_replaces (hh : s.timebase.holder = some p)
    (hs : look s.staging p = before ++ .timing old :: after) (hb : ∀ t, Edit.timing t ∉ before)
    (ha : ∀ t, Edit.timing t ∉ after) :
    stageTimingRecord p t s = (setStaging p (before ++ .timing t :: after) s,
      .built .ok [byte before.length, byte (look s.staging p).length]) := by
  have hany : (look s.staging p).any Edit.isTiming = true := by simp [hs, Edit.isTiming]
  have hdecision : stageTimingRecord p t s = (setStaging p (withTiming t (look s.staging p)) s,
      .built .ok [byte ((look s.staging p).findIdx Edit.isTiming), byte (look s.staging p).length]) :=
    (if_neg (not_not.mpr hh)).trans (if_pos hany)
  have hplaced : withTiming t (look s.staging p) = before ++ .timing t :: after := hs ▸ withTiming_only hb ha
  have hindex : (look s.staging p).findIdx Edit.isTiming = before.length := hs ▸ findIdx_isTiming hb
  rw [hdecision, hplaced, hindex]

end TimingDecision

section TimingPort

variable {s : State} {p : Port} {q : LinkSeq} {fHi fLo m wHi wLo : Byte} {t : Timing}

/-- A STAGE_TIMING with an argument out of range changes nothing but its port. -/
theorem exec_stageTiming_outOfRange (h : takesNew s p 0x33 q [fHi, fLo, m, wHi, wLo]) (ho : isOpen s p = true)
    (ht : timingArgs fHi fLo m wHi wLo = none) :
    exec (.stageTiming p q [fHi, fLo, m, wHi, wLo]) s
      = .next (answered s s p 0x33 q [fHi, fLo, m, wHi, wLo] (.built .badArgument [])) :=
  sessionRequest_refused h ho rfl (by simp only [stageTimingWith, ht])

/-- A STAGE_TIMING with its arguments in range is answered as the plan unit decides on the timing they describe. -/
theorem exec_stageTiming_record {u : State} {a : Answer} (h : takesNew s p 0x33 q [fHi, fLo, m, wHi, wLo])
    (ho : isOpen s p = true) (ht : timingArgs fHi fLo m wHi wLo = some t)
    (hd : stageTimingRecord p t (taken s p 0x33 q [fHi, fLo, m, wHi, wLo])
      = ({ u with ports := (taken s p 0x33 q [fHi, fLo, m, wHi, wLo]).ports }, a)) :
    exec (.stageTiming p q [fHi, fLo, m, wHi, wLo]) s
      = .next (answered s u p 0x33 q [fHi, fLo, m, wHi, wLo] a) :=
  sessionRequest_answered h ho rfl (by simpa only [stageTimingWith, ht] using hd)

end TimingPort

/-- Settles O41, by the arguments, the holder and the staging area in which the frame is taken. -/
theorem stageTimingPlacesEdit : Obligations.StageTimingPlacesEdit := by
  intro p q fHi fLo m wHi wLo s h ho
  refine ⟨fun hout => exec_stageTiming_outOfRange h ho (timingArgs_eq_none hout), fun hf hm hw => ?_⟩
  have ht := timingArgs_eq_some hf hm hw
  refine ⟨fun hh => ?_, fun hh => ⟨fun hfull hn => ?_, fun hroom hn => ?_, fun before old after hs hb ha => ?_⟩⟩
  · exact exec_stageTiming_record h ho ht (stageTimingRecord_notHolder hh)
  · exact exec_stageTiming_record h ho ht (stageTimingRecord_full hh hfull hn)
  · exact exec_stageTiming_record h ho ht (stageTimingRecord_appends hh hroom hn)
  · exact exec_stageTiming_record h ho ht (stageTimingRecord_replaces hh hs hb ha)

end Sys2Proof.Machine

/-! STAGE_CLEAR: the ids that staging areas reserve, and the emptied area (05 R89, R94). -/

namespace Sys2Proof.Machine

theorem mem_allPorts (x : Port) : x ∈ allPorts := by
  revert x
  decide

section Reserved

variable {s : State} {p : Port} {id : SlotId} {edits : List Edit}

/-- An area reserves the ids of its ADD edits and no others (R89). -/
theorem mem_reservedIds : id ∈ reservedIds edits ↔ ∃ sl, Edit.add sl ∈ edits ∧ sl.id = id := by
  unfold reservedIds
  rw [List.mem_filterMap]
  constructor
  · rintro ⟨e, he, hid⟩
    cases e with
    | add sl => exact ⟨sl, he, Option.some.inj hid⟩
    | move | drop | timing => cases hid
  · rintro ⟨sl, he, hid⟩
    exact ⟨.add sl, he, congrArg some hid⟩

/-- An id is reserved by an ADD of some staging area (R89). -/
theorem isReserved_iff : isReserved s id = true ↔ ∃ x, ∃ sl, Edit.add sl ∈ look s.staging x ∧ sl.id = id := by
  simp only [isReserved, List.any_eq_true, List.contains_iff_mem, mem_reservedIds, mem_allPorts, true_and]

/-- With a session's area emptied, only the other areas reserve ids (R94). -/
theorem isReserved_setStaging_nil (h : isReserved (setStaging p [] s) id = true) :
    ∃ x, x ≠ p ∧ ∃ sl, Edit.add sl ∈ look s.staging x ∧ sl.id = id := by
  obtain ⟨x, sl, hmem, hid⟩ := isReserved_iff.mp h
  have hmem : Edit.add sl ∈ look (put s.staging p []) x := hmem
  by_cases hx : x = p
  · subst hx
    rw [look_put_same] at hmem
    cases hmem
  · rw [look_put_other _ hx] at hmem
    exact ⟨x, hx, sl, hmem, hid⟩

end Reserved

/-- STAGE_CLEAR empties the area of its session and writes its port (R94). -/
theorem exec_stageClear {s : State} {p : Port} {q : LinkSeq} (h : takesNew s p 0x34 q []) (ho : isOpen s p = true) :
    exec (.stageClear p q []) s = .next (answered s (setStaging p [] s) p 0x34 q []
      (.built .ok [byte (look s.staging p).length])) :=
  sessionRequest_answered h ho rfl rfl

/-- Settles O42, from the area that the emptying leaves. -/
theorem stageClearEmptiesArea : Obligations.StageClearEmptiesArea := by
  intro p q s h ho
  have hexec := exec_stageClear h ho
  refine ⟨hexec, fun t ht id hid => ?_⟩
  rw [hexec] at ht
  cases ht
  exact isReserved_setStaging_nil hid

end Sys2Proof.Machine

/-! Removal of queued entries: what CANCELLED records and the emptied places leave, and whether a head has left
(06 R113, R120). -/

namespace Sys2Proof.Machine

section Removal

variable {s : State} {p : Port} {pick : RequestEntry → Bool}

/-- CANCELLED records offered to one session reach its result queue and no other (R120). -/
theorem offeredResult_cancelled (gone : List RequestEntry) :
    (gone.map fun e => (cancelledRecord s e, p)).foldl (offeredResult s.sessions) s.results
      = put s.results p (afterCancelled s p gone) := by
  refine table_ext fun x => ?_
  rw [look_offeredResults]
  by_cases hx : x = p
  · subst hx
    have hall : (gone.map fun e => (cancelledRecord s e, x)).filter (fun o => o.2 == x)
        = gone.map fun e => (cancelledRecord s e, x) := List.filter_eq_self.mpr (by simp)
    cases hl : (look s.sessions x).lease <;> simp [afterCancelled, hl, hall, List.foldl_map]
  · have hnone : (gone.map fun e => (cancelledRecord s e, p)).filter (fun o => o.2 == x) = [] :=
      List.filter_eq_nil_iff.mpr (by simp [Ne.symm hx])
    cases hl : (look s.sessions x).lease <;> simp [look_put_other _ hx, hnone]

/-- The entries removed from one session's queue leave it, each with its CANCELLED record, and nothing else changes
(R113, R120). -/
theorem removeEntries_cancelled_single :
    removeEntries .cancelledOnly pick [p] s = { s with
      requests := put s.requests p ((look s.requests p).filter fun e => !pick e)
      results := put s.results p (afterCancelled s p ((look s.requests p).filter pick)) } := by
  have hoffers : [p].flatMap (removalOffers s.reference.state.named .cancelledOnly pick s.requests)
      = ((look s.requests p).filter pick).map fun e => (cancelledRecord s e, p) :=
    List.flatMap_singleton _ _
  simp only [removeEntries, offerResults, hoffers, offeredResult_cancelled, List.foldl_cons, List.foldl_nil,
    withoutEntries]

/-- A write to one queue takes a head away exactly where that queue's own head goes (01 R15). -/
theorem headLeft_put {v : Vector (List RequestEntry) 4} {rest : List RequestEntry} :
    headLeft v (put v p rest) = true ↔ ∃ e, (look v p).head? = some e ∧ rest.head? ≠ some e := by
  rw [headLeft_iff]
  constructor
  · rintro ⟨x, e, hb, ha⟩
    by_cases hx : x = p
    · subst hx
      rw [look_put_same] at ha
      exact ⟨e, hb, ha⟩
    · rw [look_put_other _ hx] at ha
      exact absurd hb ha
  · rintro ⟨e, hb, ha⟩
    exact ⟨p, e, hb, by rwa [look_put_same]⟩

end Removal

end Sys2Proof.Machine

/-! CANCEL: the state of the Tag, the entry taken out of its queue, and the answer of the port (06 R114, R118). -/

namespace Sys2Proof.Machine

/-- The state after one entry has left a session's queue with its CANCELLED record, before any decision (R118). -/
def entryCancelled (s : State) (p : Port) (e : RequestEntry) (rest : List RequestEntry) : State :=
  { s with
    requests := put s.requests p rest
    results := put s.results p (afterCancelled s p [e]) }

section Tags

variable {s : State} {p : Port} {tag : Byte}

theorem tagQueued_eq_false (h : ∀ e ∈ look s.requests p, e.tag ≠ tag) : tagQueued s p tag = false :=
  List.any_eq_false.mpr fun e he => by simpa using h e he

/-- The Tag is held by the conversion in flight of the session, unless that is discarded (R114). -/
theorem tagInFlight_iff :
    tagInFlight s p tag = true
      ↔ ∃ f, s.inFlight = some f ∧ f.source = .request tag ∧ f.session = p ∧ f.discard = false := by
  unfold tagInFlight
  cases s.inFlight with
  | none => simp
  | some c => simp [and_assoc]

end Tags

section QueueSplit

variable {before after : List RequestEntry} {e : RequestEntry} {tag : Byte}

/-- Of a queue that holds the Tag once, the entries with another Tag are those before it and those after it. -/
theorem filter_tag_ne (he : e.tag = tag) (hb : ∀ x ∈ before, x.tag ≠ tag) (ha : ∀ x ∈ after, x.tag ≠ tag) :
    (before ++ e :: after).filter (fun x => x.tag != tag) = before ++ after := by
  have hbefore : before.filter (fun x => x.tag != tag) = before := List.filter_eq_self.mpr (by simpa using hb)
  have hafter : after.filter (fun x => x.tag != tag) = after := List.filter_eq_self.mpr (by simpa using ha)
  rw [List.filter_append, List.filter_cons_of_neg (by simp [he]), hbefore, hafter]

/-- Of a queue that holds the Tag once, that entry alone is picked out by it. -/
theorem filter_tag_eq (he : e.tag = tag) (hb : ∀ x ∈ before, x.tag ≠ tag) (ha : ∀ x ∈ after, x.tag ≠ tag) :
    (before ++ e :: after).filter (fun x => x.tag == tag) = [e] := by
  have hbefore : before.filter (fun x => x.tag == tag) = [] := List.filter_eq_nil_iff.mpr (by simpa using hb)
  have hafter : after.filter (fun x => x.tag == tag) = [] := List.filter_eq_nil_iff.mpr (by simpa using ha)
  rw [List.filter_append, List.filter_cons_of_pos (by simp [he]), hbefore, hafter, List.nil_append]

/-- The removal of an entry takes the head away exactly where nothing stands before it: the entry that follows has
another Tag (01 R15, R118). -/
theorem headLeft_remove {v : Vector (List RequestEntry) 4} {p : Port} (hq : look v p = before ++ e :: after)
    (he : e.tag = tag) (ha : ∀ x ∈ after, x.tag ≠ tag) :
    headLeft v (put v p (before ++ after)) = true ↔ before = [] := by
  rw [headLeft_put, hq]
  cases before with
  | nil =>
    have hnext : after.head? ≠ some e := fun h => ha e (List.mem_of_head? h) he
    exact iff_of_true ⟨e, rfl, hnext⟩ rfl
  | cons x xs => simp

end QueueSplit

section CancelDecision

variable {s : State} {p : Port} {tag : Byte} {before after : List RequestEntry} {e : RequestEntry}

/-- The cancelled entry leaves its queue, and the arbiter decides where it was the head (R118). -/
theorem cancelEntry_eq (hq : look s.requests p = before ++ e :: after) (he : e.tag = tag)
    (hb : ∀ x ∈ before, x.tag ≠ tag) (ha : ∀ x ∈ after, x.tag ≠ tag) :
    cancelEntry p tag s = if before = [] then arbitrate (entryCancelled s p e (before ++ after))
      else entryCancelled s p e (before ++ after) := by
  have hremoved : removeEntries .cancelledOnly (fun x => x.tag == tag) [p] s
      = entryCancelled s p e (before ++ after) := by
    rw [removeEntries_cancelled_single, hq, filter_tag_eq he hb ha]
    exact congrArg (entryCancelled s p e) (filter_tag_ne he hb ha)
  have hhead : headLeft s.requests (entryCancelled s p e (before ++ after)).requests = true ↔ before = [] :=
    headLeft_remove hq he ha
  simp only [cancelEntry, hremoved, arbitrateIf, hhead]

/-- A Tag held by a queued entry: the entry is cancelled, and the answer counts those that stay (R118). -/
theorem cancelWith_queued (hq : look s.requests p = before ++ e :: after) (he : e.tag = tag)
    (hb : ∀ x ∈ before, x.tag ≠ tag) (ha : ∀ x ∈ after, x.tag ≠ tag) :
    cancelWith p [tag] s = (if before = [] then arbitrate (entryCancelled s p e (before ++ after))
      else entryCancelled s p e (before ++ after), .built .ok [byte (before ++ after).length]) := by
  have hqueued : tagQueued s p tag = true := by simp [tagQueued, hq, he]
  simp only [cancelWith, if_pos hqueued, cancelEntry_eq hq he hb ha, hq, filter_tag_ne he hb ha]

/-- A Tag held by the conversion in flight and by no entry is refused (R118). -/
theorem cancelWith_tooLate (hn : ∀ e ∈ look s.requests p, e.tag ≠ tag) (hf : tagInFlight s p tag = true) :
    cancelWith p [tag] s = refuse .tooLate s := by
  simp only [cancelWith, tagQueued_eq_false hn, hf, Bool.false_eq_true, if_false, if_true]

/-- A Tag not in use is refused (R118). -/
theorem cancelWith_notFound (hn : ∀ e ∈ look s.requests p, e.tag ≠ tag) (hf : tagInFlight s p tag = false) :
    cancelWith p [tag] s = refuse .notFound s := by
  simp only [cancelWith, tagQueued_eq_false hn, hf, Bool.false_eq_true, if_false]

end CancelDecision

section CancelPort

variable {s : State} {p : Port} {q : LinkSeq} {tag : Byte} {before after : List RequestEntry} {e : RequestEntry}

/-- A CANCEL that the request queues refuse changes nothing but its port. -/
theorem exec_cancel_refused {st : Status} (h : takesNew s p 0x41 q [tag]) (ho : isOpen s p = true)
    (hf : cancelWith p [tag] (taken s p 0x41 q [tag]) = refuse st (taken s p 0x41 q [tag])) :
    exec (.cancel p q [tag]) s = .next (answered s s p 0x41 q [tag] (.built st [])) :=
  sessionRequest_refused h ho rfl hf

/-- A CANCEL of a queued entry is answered OK with the queue count after it (R118). -/
theorem exec_cancel_queued (h : takesNew s p 0x41 q [tag]) (ho : isOpen s p = true)
    (hq : look s.requests p = before ++ e :: after) (he : e.tag = tag)
    (hb : ∀ x ∈ before, x.tag ≠ tag) (ha : ∀ x ∈ after, x.tag ≠ tag) :
    exec (.cancel p q [tag]) s = .next (answered s
      (if before = [] then arbitrate (entryCancelled s p e (before ++ after))
        else entryCancelled s p e (before ++ after)) p 0x41 q [tag]
      (.built .ok [byte (before ++ after).length])) := by
  have hd := cancelWith_queued (s := taken s p 0x41 q [tag]) hq he hb ha
  by_cases hhead : before = []
  · rw [if_pos hhead] at hd ⊢
    exact sessionRequest_answered h ho rfl (hd.trans (congrArg (·, _)
      (arbitrate_ports (entryCancelled s p e (before ++ after)) (taken s p 0x41 q [tag]).ports)))
  · rw [if_neg hhead] at hd ⊢
    exact sessionRequest_answered h ho rfl hd

end CancelPort

/-- Settles O46, by the place of the Tag in the state in which the frame is taken. -/
theorem cancelRemovesEntry : Obligations.CancelRemovesEntry := by
  intro p q tag s h ho
  refine ⟨fun hn => ⟨fun hf => ?_, fun hf => ?_⟩, fun before after e hq he hb ha =>
    ⟨entryCancelled s p e (before ++ after), rfl, exec_cancel_queued h ho hq he hb ha⟩⟩
  · exact exec_cancel_refused h ho (cancelWith_tooLate hn (tagInFlight_iff.mpr hf))
  · exact exec_cancel_refused h ho (cancelWith_notFound hn (Bool.eq_false_iff.mpr (mt tagInFlight_iff.mp hf)))

end Sys2Proof.Machine

/-! Offers to result and event queues: what a queue with room and a full one become, and which sessions are offered
anything at all (07 R130, R133 to R135, 09 R160). -/

namespace Sys2Proof.Machine

section QueueRoom

variable {policy : OverflowPolicy} {r : ResultRecord} {q : ResultQueue} {e : EventRecord} {v : EventQueue}

/-- A result queue with room takes the record at its tail, under either policy (R133). -/
theorem enqueue_of_room (h : q.records.length < 32) :
    enqueue policy r q = { q with
      records := q.records ++ [{ r with sequence := q.nextSequence }], nextSequence := q.nextSequence + 1 } :=
  if_pos h

/-- A full result queue under DROP_NEWEST keeps its records and its next sequence number, and counts the loss (R134). -/
theorem enqueue_dropNewest_of_full (h : 32 ≤ q.records.length) :
    enqueue .dropNewest r q = { q with overflow := min 65535 (q.overflow + 1) } :=
  if_neg (Nat.not_lt.mpr h)

/-- A full result queue under OVERWRITE_OLDEST gives up its head for the record, and counts the loss (R135). -/
theorem enqueue_overwriteOldest_of_full (h : 32 ≤ q.records.length) :
    enqueue .overwriteOldest r q = {
      records := q.records.drop 1 ++ [{ r with sequence := q.nextSequence }]
      nextSequence := q.nextSequence + 1
      overflow := min 65535 (q.overflow + 1) } :=
  if_neg (Nat.not_lt.mpr h)

/-- An event queue with room takes the event at its tail (R160). -/
theorem enqueueEvent_of_room (h : v.records.length < 16) : enqueueEvent e v = { v with records := v.records ++ [e] } :=
  if_pos h

/-- A full event queue loses the event and counts it (R160). -/
theorem enqueueEvent_of_full (h : 16 ≤ v.records.length) : enqueueEvent e v = { v with lost := min 255 (v.lost + 1) } :=
  if_neg (Nat.not_lt.mpr h)

end QueueRoom

theorem Session.lease_opened {x : Session} {l : Lease} (h : x.state = .opened l) : x.lease = some l := by
  simp only [Session.lease, h]

/-- A session that is not OPEN carries no lease (10 R168). -/
theorem lease_eq_none {s : State} {p : Port} (h : isOpen s p = false) : (look s.sessions p).lease = none :=
  Option.not_isSome_iff_eq_none.mp (Bool.eq_false_iff.mp h)

section OneOffer

variable {sessions : Vector Session 4} {rs : Vector ResultQueue 4} {qs : Vector EventQueue 4} {frame : Half}
  {p : Port} {r : ResultRecord} {k : EventKind} {l : Lease}

/-- The queue of a session with a lease takes an offered record under the lease's policy (R130). -/
theorem offeredResult_of_lease (h : (look sessions p).lease = some l) :
    offeredResult sessions rs (r, p) = put rs p (enqueue l.policy r (look rs p)) := by
  simp only [offeredResult, h]

/-- A session without a lease is passed over by an offered record (R130). -/
theorem offeredResult_of_no_lease (h : (look sessions p).lease = none) : offeredResult sessions rs (r, p) = rs := by
  simp only [offeredResult, h]

/-- The queue of a session with a lease takes an offered event with the frame of the moment (R158, R160). -/
theorem offeredEvent_of_lease (h : (look sessions p).lease = some l) :
    offeredEvent sessions frame qs (k, p) = put qs p (enqueueEvent { kind := k, frame } (look qs p)) :=
  if_pos (Option.isSome_of_eq_some h)

/-- A session without a lease is passed over by an offered event (R160). -/
theorem offeredEvent_of_no_lease (h : (look sessions p).lease = none) : offeredEvent sessions frame qs (k, p) = qs :=
  if_neg (Option.not_isSome_iff_eq_none.mpr h)

end OneOffer

section OfferToState

variable {s : State} {p : Port} {r : ResultRecord} {k : EventKind}

theorem offerResults_single :
    offerResults [(r, p)] s = { s with results := offeredResult s.sessions s.results (r, p) } := rfl

theorem offerEvents_single :
    offerEvents [(k, p)] s
      = { s with events := offeredEvent s.sessions s.timebase.frameNumber s.events (k, p) } := rfl

end OfferToState

/-- Settles O51, by the room in the queue and the lease of the session that the record or event is offered to. -/
theorem queueOverflowRules : Obligations.QueueOverflowRules := by
  refine ⟨fun _ _ _ h => enqueue_of_room h,
    fun _ _ h => ⟨enqueue_dropNewest_of_full h, enqueue_overwriteOldest_of_full h⟩,
    fun _ _ => ⟨enqueueEvent_of_room, enqueueEvent_of_full⟩,
    fun s p r k frame rs qs => ⟨fun l hopened => ?_, fun hclosed => ?_⟩,
    fun s p r k => ⟨fun l hopened => ?_, fun hclosed => ?_⟩⟩
  · have hlease := Session.lease_opened hopened
    exact ⟨offeredResult_of_lease hlease, offeredEvent_of_lease hlease⟩
  · have hlease := lease_eq_none hclosed
    exact ⟨offeredResult_of_no_lease hlease, offeredEvent_of_no_lease hlease⟩
  · have hlease := Session.lease_opened hopened
    rw [offerResults_single, offerEvents_single, offeredResult_of_lease hlease, offeredEvent_of_lease hlease]
    exact ⟨rfl, rfl⟩
  · have hlease := lease_eq_none hclosed
    rw [offerResults_single, offerEvents_single, offeredResult_of_no_lease hlease, offeredEvent_of_no_lease hlease]
    exact ⟨rfl, rfl⟩

end Sys2Proof.Machine

/-! Classification of a value by a monitor: its place on the 12-bit scale, its zone, the run of a candidate, and the
crossings that are reported (08 R151 to R153). -/

namespace Sys2Proof.Machine

section Scale

variable (v : Nat)

/-- A 12-bit value stands on the scale as it is (R151). -/
theorem scaled_bits12 : scaled .bits12 v = v :=
  Nat.mul_one v

/-- A 10-bit value is scaled by 4 (R151). -/
theorem scaled_bits10 : scaled .bits10 v = 4 * v :=
  Nat.mul_comm v 4

/-- An 8-bit value is scaled by 16 (R151). -/
theorem scaled_bits8 : scaled .bits8 v = 16 * v :=
  Nat.mul_comm v 16

end Scale

section ZoneOfValue

variable {m : Monitor} {v : Nat}

theorem zoneOf_below (h : v < m.lowLimit) : zoneOf m v = .below :=
  if_pos h

/-- A value at the Low Limit is not BELOW, so only one past the High Limit is ABOVE (R151). -/
theorem zoneOf_above (hl : m.lowLimit ≤ v) (hh : m.highLimit < v) : zoneOf m v = .above :=
  (if_neg (Nat.not_lt.mpr hl)).trans (if_pos hh)

/-- A value equal to a limit is INSIDE (R151). -/
theorem zoneOf_inside (hl : m.lowLimit ≤ v) (hh : v ≤ m.highLimit) : zoneOf m v = .inside :=
  (if_neg (Nat.not_lt.mpr hl)).trans (if_neg (Nat.not_lt.mpr hh))

end ZoneOfValue

section Run

variable {m : Monitor} {z : Zone}

/-- A value in the candidate's zone lengthens its run (R152). -/
theorem runAfter_of_candidate (h : m.candidate = some z) : runAfter m z = m.runCount + 1 :=
  if_pos h

/-- A value in a third zone starts a run of its own (R152). -/
theorem runAfter_of_not_candidate (h : m.candidate ≠ some z) : runAfter m z = 1 :=
  if_neg h

/-- The two rows of R152's table for a zone that is not the Zone determine the Run Count. -/
theorem runAfter_eq {run : Nat} (hc : m.candidate = some z → run = m.runCount + 1)
    (hn : m.candidate ≠ some z → run = 1) : runAfter m z = run := by
  by_cases h : m.candidate = some z
  · rw [runAfter_of_candidate h, hc h]
  · rw [runAfter_of_not_candidate h, hn h]

/-- A value in the Zone breaks the run of a candidate (R152). -/
theorem classified_of_zone (h : z = m.zone) : classified m z = { m with candidate := none, runCount := 0 } :=
  if_pos h

/-- A run that has not reached the Filter Count is kept with its candidate (R152). -/
theorem classified_of_run_short (hz : z ≠ m.zone) (hr : runAfter m z ≠ m.filterCount) :
    classified m z = { m with candidate := some z, runCount := runAfter m z } :=
  (if_neg hz).trans (if_neg hr)

/-- A run that reaches the Filter Count confirms its zone (R152). -/
theorem classified_of_run_full (hz : z ≠ m.zone) (hr : runAfter m z = m.filterCount) :
    classified m z = { m with zone := z, candidate := none, runCount := 0 } :=
  (if_neg hz).trans (if_pos hr)

end Run

section Crossing

variable {m : Monitor} {z : Zone}

/-- A crossing is reported when the value leaves the Zone, its run is full, and the departure is not the silent one
(R153). -/
theorem reportsCrossing_iff : reportsCrossing m z = true ↔
    z ≠ m.zone ∧ runAfter m z = m.filterCount ∧ ¬(m.zone = .unknown ∧ z = .inside) :=
  decide_eq_true_iff

/-- A value in the Zone crosses nothing. -/
theorem reportsCrossing_of_zone (h : z = m.zone) : reportsCrossing m z = false :=
  Bool.eq_false_iff.mpr fun hr => (reportsCrossing_iff.mp hr).left h

/-- A run that has not reached the Filter Count confirms no crossing. -/
theorem reportsCrossing_of_run_short (h : runAfter m z ≠ m.filterCount) : reportsCrossing m z = false :=
  Bool.eq_false_iff.mpr fun hr => h (reportsCrossing_iff.mp hr).right.left

/-- Every confirmed crossing is reported but the departure from UNKNOWN for INSIDE (R153). -/
theorem reportsCrossing_of_run_full (hz : z ≠ m.zone) (hr : runAfter m z = m.filterCount) :
    reportsCrossing m z = true ↔ ¬(m.zone = .unknown ∧ z = .inside) :=
  reportsCrossing_iff.trans ⟨fun ⟨_, _, hs⟩ => hs, fun hs => ⟨hz, hr, hs⟩⟩

end Crossing

/-- Settles O54, by whether the zone found is the Zone, and if not, whether the run reaches the Filter Count. -/
theorem monitorClassification : Obligations.MonitorClassification := by
  refine ⟨fun v => ⟨scaled_bits12 v, scaled_bits10 v, scaled_bits8 v⟩,
    fun _ _ => ⟨zoneOf_below, zoneOf_above, zoneOf_inside⟩,
    fun m z => ⟨fun same => ⟨classified_of_zone same, reportsCrossing_of_zone same⟩, fun run left hc hn => ?_⟩⟩
  have hrun : runAfter m z = run := runAfter_eq hc hn
  subst hrun
  exact ⟨fun short => ⟨classified_of_run_short left short, reportsCrossing_of_run_short short⟩,
    fun full => ⟨classified_of_run_full left full, reportsCrossing_of_run_full left full⟩⟩

end Sys2Proof.Machine

/-! IDENTIFY, OPEN refused and RENEW: the session unit's decision by the state of the session and the arguments, and the
answer of the port (10 R170, R174, R179). -/

namespace Sys2Proof.Machine

/-- An OPEN session is one whose record carries a lease (10 R168). -/
theorem isOpen_iff {s : State} {p : Port} : isOpen s p = true ↔ ∃ l, (look s.sessions p).state = .opened l := by
  unfold isOpen Session.lease
  cases (look s.sessions p).state with
  | opened l => exact iff_of_true rfl ⟨l, rfl⟩
  | closed | revoked => exact iff_of_false Bool.false_ne_true nofun

/-- A byte above 1 is no overflow policy (10 R170). -/
theorem policyArg_eq_none {b : Byte} (h : 1 < b.toNat) : policyArg b = none := by
  have h0 : b.toNat ≠ 0 := by omega
  have h1 : b.toNat ≠ 1 := by omega
  simp only [policyArg, flagArg, if_neg h0, if_neg h1, Option.map_none]

/-- One argument of OPEN out of its range leaves no arguments, whatever the others are (10 R170). -/
theorem openArgs_eq_none {hi lo policy mark : Byte}
    (h : be16 hi lo < 5 ∨ 5000 < be16 hi lo ∨ 1 < policy.toNat ∨ mark.toNat < 1 ∨ 32 < mark.toNat) :
    openArgs hi lo policy mark = none := by
  have hout : (be16 hi lo < 5 ∨ 5000 < be16 hi lo) ∨ 1 < policy.toNat ∨ mark.toNat < 1 ∨ 32 < mark.toNat :=
    or_assoc.mpr h
  unfold openArgs
  obtain hlease | hpolicy | hmark := hout
  · rw [within_eq_none hlease]
    rfl
  · simp [policyArg_eq_none hpolicy]
  · simp [within_eq_none hmark]

section SessionDecision

variable {s : State} {p : Port} {hi lo policy mark : Byte} {payload : List Byte} {l : Lease}

/-- A session that is OPEN is not opened again, whatever the arguments (R170). -/
theorem openWith_inUse (ho : isOpen s p = true) : openWith p payload s = refuse .inUse s := by
  obtain ⟨l, hl⟩ := isOpen_iff.mp ho
  simp only [openWith, hl]

/-- In CLOSED and in REVOKED an OPEN without its arguments in range is refused (R170). -/
theorem openWith_badArgument (ho : isOpen s p = false) (ha : openArgs hi lo policy mark = none) :
    openWith p [hi, lo, policy, mark] s = refuse .badArgument s := by
  unfold openWith
  cases hx : (look s.sessions p).state with
  | opened l => exact absurd (isOpen_iff.mpr ⟨l, hx⟩) (Bool.eq_false_iff.mp ho)
  | closed | revoked => simp only [ha]

/-- The Expected Renewal refills the lease (R174). -/
theorem renewWith_expected (hx : (look s.sessions p).state = .opened l) (hn : be16 hi lo = l.expectedRenewal.toNat) :
    renewWith p [hi, lo] s = (setSession p { look s.sessions p with state := .opened l.renewed } s,
      .built .ok (half l.renewed.expectedRenewal.toNat ++ half l.leaseLength)) := by
  simp only [renewWith, hx, if_pos hn]

/-- Any other number is refused with the number expected, and the lease runs on (R174). -/
theorem renewWith_badRenewal (hx : (look s.sessions p).state = .opened l)
    (hn : be16 hi lo ≠ l.expectedRenewal.toNat) :
    renewWith p [hi, lo] s = (s, .built .badRenewal (half l.expectedRenewal.toNat)) := by
  simp only [renewWith, hx, if_neg hn]

end SessionDecision

section SessionPort

variable {s : State} {p : Port} {q : LinkSeq} {hi lo policy mark : Byte}

/-- IDENTIFY does not ask for the state of the session, and writes its port alone (R169, R179). -/
theorem exec_identify (h : takesNew s p 0x01 q []) :
    exec (.identify p q []) s = .next (answered s s p 0x01 q [] (.built .ok (identifyPayload p s))) :=
  takeRequest_answered h rfl rfl

/-- An OPEN that the session unit refuses changes nothing but its port, where RESET_SEEN stays (R170). -/
theorem exec_openSession_refused {st : Status} (h : takesNew s p 0x02 q [hi, lo, policy, mark])
    (hf : openWith p [hi, lo, policy, mark] (taken s p 0x02 q [hi, lo, policy, mark])
      = refuse st (taken s p 0x02 q [hi, lo, policy, mark])) :
    exec (.openSession p q [hi, lo, policy, mark]) s
      = .next (answered s s p 0x02 q [hi, lo, policy, mark] (.built st [])) :=
  takeRequest_answered h rfl hf

end SessionPort

/-- Settles O14, by the payload of IDENTIFY, which reads the port and the reset cause alone. -/
theorem identifyReply : Obligations.IdentifyReply := by
  intro p q s h
  rw [exec_identify h]
  unfold identifyPayload
  cases s.resetCause with
  | powerOn | resetPin => rfl

/-- Settles O15, by the state of the session and the range of the arguments. -/
theorem openRefused : Obligations.OpenRefused := by
  intro p q hi lo policy mark s h
  exact ⟨fun ho => exec_openSession_refused h (openWith_inUse ho),
    fun ho hout => exec_openSession_refused h (openWith_badArgument ho (openArgs_eq_none hout))⟩

/-- Settles O18, by whether the number sent is the Expected Renewal of the lease in which the frame is taken. -/
theorem renewRefillsLease : Obligations.RenewRefillsLease := by
  intro p q hi lo s l h hx
  have ho : isOpen s p = true := isOpen_iff.mpr ⟨l, hx⟩
  exact ⟨fun hn => sessionRequest_answered h ho rfl (renewWith_expected hx hn),
    fun hn => sessionRequest_answered h ho rfl (renewWith_badRenewal hx hn)⟩

end Sys2Proof.Machine

/-! What a step can do, said once: every command leads from a state to the next by one effect on the blocks of the hub,
apart from the fields that no law of the blocks reads (11 R188 to R190; 95 What each step holds). -/

namespace Sys2Proof.Machine

/-! ### The ranges of arguments -/

theorem within_eq_some_iff {lo hi n m : Nat} : within lo hi n = some m ↔ n = m ∧ lo ≤ n ∧ n ≤ hi := by
  unfold within
  by_cases h : lo ≤ n ∧ n ≤ hi
  · simp [h]
  · simp [h]

/-- The arguments of OPEN lie in the ranges of a lease (10 R168, R170). -/
def OpenArgs.inRange (a : OpenArgs) : Prop :=
  5 ≤ a.leaseLength ∧ a.leaseLength ≤ 5000 ∧ 1 ≤ a.watermark ∧ a.watermark ≤ 32

theorem openArgs_inRange {hi lo policy mark : Byte} {a : OpenArgs} (h : openArgs hi lo policy mark = some a) :
    a.inRange := by
  simp only [openArgs, Option.bind_eq_bind, Option.bind_eq_some_iff, within_eq_some_iff, Option.some.injEq] at h
  obtain ⟨n, ⟨rfl, hn⟩, policy, -, m, ⟨rfl, hm⟩, rfl⟩ := h
  exact ⟨hn.1, hn.2, hm.1, hm.2⟩

theorem timingArgs_lawful {fHi fLo m wHi wLo : Byte} {t : Timing} (h : timingArgs fHi fLo m wHi wLo = some t) :
    t.lawful := by
  simp only [timingArgs, Option.bind_eq_bind, Option.bind_eq_some_iff, within_eq_some_iff, Option.some.injEq] at h
  obtain ⟨f, ⟨rfl, hf⟩, mode, -, w, ⟨rfl, hw⟩, rfl⟩ := h
  exact ⟨hf.1, hf.2, hw.2⟩

/-! ### The effects on the blocks -/

/-- The state in which a device reset leaves the hub (11 R181). -/
def resetBy (cause : ResetCause) (s : State) : State :=
  { State.reset with
    pending := s.pending, clock := s.clock, moment := s.moment, syncInput := s.syncInput, selectInput := s.selectInput,
    ports := s.ports.map fun lp => { LinkPort.reset with select := lp.select.atReset },
    inReset := true, resetCause := cause }

/-- A channel that a claim of the session may write: FREE, or DIGITAL and its own (02 R32, R43, R44). -/
def claimable (s : State) (p : Port) (ch : Channel) : Prop :=
  look s.channels ch = .free ∨ ∃ d, look s.channels ch = .digital p d

/-- What a claim, a PIN_SETUP or a PIN_DRIVE writes into such a channel (02 R33, R34, R43, R44). -/
def claimWrites (p : Port) (x : ChannelRec) : Prop :=
  x = .settling p 240 false ∨ x = .analog p [] ∨ ∃ d, x = .digital p d

/-- An edit that may join a staging area: an ADD of a free id, a timing in its ranges (04 R63, 05 R89). -/
def stageable (s : State) : Edit → Prop
  | .add sl => isFreeId s sl.id = true
  | .move _ _ => True
  | .drop _ => True
  | .timing t => t.lawful

/-- One effect of a command on the blocks, with what the command has checked before it. -/
inductive Effect (s : State) : State → Prop
  | unchanged : Effect s s
  | reset (cause : ResetCause) : Effect s (resetBy cause s)
  -- sessions (chapter 10)
  | opened (p : Port) (a : OpenArgs) (ha : a.inRange) (hp : isOpen s p = false) : Effect s (opened p a s)
  | ended (p : Port) (left : SessionState) (hp : isOpen s p = true) (hl : ∀ l, left ≠ .opened l) :
      Effect s (endSession p left s)
  | renewed (p : Port) (l : Lease) (hx : (look s.sessions p).state = .opened l) :
      Effect s (setSession p { look s.sessions p with state := .opened l.renewed } s)
  | fallen (p : Port) (l : Lease) (os : List (EventKind × Port)) (hx : (look s.sessions p).state = .opened l) :
      Effect s (offerEvents os (setSession p { look s.sessions p with state := .opened l.fallen } s))
  -- channels (chapter 02)
  | claimed (p : Port) (ch : Channel) (x : ChannelRec) (hp : isOpen s p = true) (hc : claimable s p ch)
      (hx : claimWrites p x) : Effect s (setChannel ch x s)
  | subscribed (p : Port) (ch : Channel) (o : Port) (subs : List Port) (hp : isOpen s p = true)
      (hc : look s.channels ch = .analog o subs) (ho : o ≠ p) (hn : p ∉ subs) (hl : subs.length < 3) :
      Effect s (setChannel ch (.analog o (subs ++ [p])) s)
  | unsubscribed (p : Port) (ch : Channel) : Effect s (unsubscribed p ch s)
  | modeChanged (p : Port) (ch : Channel) (subs : List Port) (hp : isOpen s p = true)
      (hc : look s.channels ch = .analog p subs) (hu : planUse s ch = false) : Effect s (changeMode ch p subs s)
  | released (p : Port) (ch : Channel) (subs : List Port) (hc : look s.channels ch = .analog p subs)
      (hu : planUse s ch = false) : Effect s (releaseAnalog ch p subs s)
  | freed (p : Port) (ch : Channel) (ho : (look s.channels ch).owner = some p) (hu : planUse s ch = false) :
      Effect s (setLatest ch none (setChannel ch .free s))
  | analogSettled (ch : Channel) (o : Port) (n : Nat) (hc : look s.channels ch = .settling o n true) :
      Effect s (offerEvents [(.claimDone ch, o)] (setChannel ch (.analog o []) s))
  -- the reference (chapter 03)
  | referenceClaimed (p : Port) (hp : isOpen s p = true) (hh : s.reference.holder = none) :
      Effect s { s with reference := { s.reference with holder := some p } }
  | referenceReleased : Effect s (loseHolder s)
  | switchTaken (r : Ref) (hx : s.reference.state = .steady r false) (hh : s.reference.holder ≠ none)
      (hc : r = .internal → look s.channels 11 = .free) : Effect s (takeSwitch r s)
  | switchWithdrawn (r : Ref) (hx : s.reference.state = .steady r true) (hh : s.reference.holder ≠ none) :
      Effect s (withdrawSwitch r s)
  | switchTurned (r : Ref) (n : Nat) (due : Bool) (hx : s.reference.state = .settling r.other n due)
      (hh : s.reference.holder ≠ none) : Effect s (setRefState (settleToward r) s)
  | referenceSettled (r : Ref) (n : Nat) (hx : s.reference.state = .settling r n true) :
      Effect s (arbitrate (settleEnded r s))
  -- the timebase (chapter 04)
  | timebaseClaimed (p : Port) (hp : isOpen s p = true) :
      Effect s { s with timebase := { s.timebase with holder := some p } }
  | timebaseReleased : Effect s { s with timebase := { s.timebase with holder := none } }
  | spurious :
      Effect s { s with timebase := { s.timebase with spuriousCount := saturate 65535 (s.timebase.spuriousCount + 1) } }
  | boundary (o : SyncOutcome) (hr : running s = true) (hm : o = .miss → s.timebase.state = .locked) :
      Effect s (takeBoundary o s)
  | synchronised (n : Nat) (hx : s.timebase.state = .hunting n) : Effect s (arbitrate (startFrame0 .locked [] s))
  | huntingEnded (n : Nat) (hx : s.timebase.state = .hunting n) : Effect s (arbitrate (huntingLimit s))
  | phaseArrived : Effect s (arbitrateIf (arrivalRaisesDecision s) (phaseArrival s))
  -- the plans (chapter 05)
  | staged (p : Port) (e : Edit) (hp : isOpen s p = true) (hl : (look s.staging p).length < 8) (he : stageable s e) :
      Effect s (setStaging p (look s.staging p ++ [e]) s)
  | retimed (p : Port) (t : Timing) (hp : isOpen s p = true) (ht : t.lawful) :
      Effect s (setStaging p (withTiming t (look s.staging p)) s)
  | stagingCleared (p : Port) : Effect s (setStaging p [] s)
  | committed (p : Port) (c : PlanCopy) (hp : isOpen s p = true) (hb : buildCopy s p = .ok c)
      (hf : feasible c.timing c.slots = true) : Effect s (commitCopy p c s).1
  -- on-demand work, the converter and the queues (chapters 06, 01, 07, 09)
  | joined (p : Port) (e : RequestEntry) (hp : isOpen s p = true) (hl : (look s.requests p).length < 8)
      (ht : tagInUse s p e.tag = false) : Effect s (joinQueue p e s)
  | cancelled (p : Port) (tag : Byte) : Effect s (cancelEntry p tag s)
  | converted (c : InFlight) (hc : s.inFlight = some c) : Effect s (arbitrate (endConversion c s))
  | resultsFetched (p : Port) (n : Nat) :
      Effect s (setResults p { look s.results p with records := (look s.results p).records.drop n, overflow := 0 } s)
  | eventsFetched (p : Port) (n : Nat) :
      Effect s (setEvents p { records := (look s.events p).records.drop n, lost := 0 } s)
  -- monitors (chapter 08)
  | monitorAttached (p : Port) (a : MonitorArgs) (m : MonitorId) (hp : isOpen s p = true)
      (hm : monitorOf s a.slot = none) : Effect s (setMonitor m (some (a.attached p)) s)
  | monitorFreed (m : MonitorId) : Effect s (freeMonitor m s)

/-! ### The decision of each request -/

section Decisions

variable {s : State} {p : Port} {payload : List Byte}

theorem openWith_effect : Effect s (openWith p payload s).1 := by
  cases ho : isOpen s p with
  | true =>
    rw [openWith_inUse ho]
    exact .unchanged
  | false =>
    unfold openWith
    split
    · exact .unchanged
    all_goals
      split
      · split
        · exact .unchanged
        · next ha => exact .opened p _ (openArgs_inRange ha) ho
      · exact .unchanged

theorem closeWith_effect (hp : isOpen s p = true) : Effect s (closeWith p s).1 :=
  .ended p .closed hp nofun

theorem renewWith_effect : Effect s (renewWith p payload s).1 := by
  unfold renewWith
  split
  · next l hi lo hx =>
    split
    · exact .renewed p l hx
    · exact .unchanged
  · exact .unchanged

theorem claimAnalog_effect {ch : Channel} (hp : isOpen s p = true) : Effect s (claimAnalog p ch s).1 := by
  unfold claimAnalog
  split
  · next hc =>
    split
    · exact .claimed p ch _ hp (.inl hc) (.inl rfl)
    · exact .claimed p ch _ hp (.inl hc) (.inr (.inl rfl))
  · exact .unchanged
  · exact .unchanged
  · next o d hc =>
    split
    · next ho => exact .claimed p ch _ hp (.inr ⟨d, ho ▸ hc⟩) (.inl rfl)
    · exact .unchanged
  · split <;> exact .unchanged

theorem claimDigital_effect {ch : Channel} (hp : isOpen s p = true) : Effect s (claimDigital p ch s).1 := by
  unfold claimDigital
  split
  · next hc => exact .claimed p ch _ hp (.inl hc) (.inr (.inr ⟨_, rfl⟩))
  · exact .unchanged
  · exact .unchanged
  · split <;> exact .unchanged
  · next o subs hc =>
    split
    · next ho =>
      split
      · exact .unchanged
      · next hu =>
        subst ho
        exact .modeChanged o ch subs hp hc (Bool.not_eq_true _ ▸ hu)
    · exact .unchanged

theorem claimWith_effect (hp : isOpen s p = true) : Effect s (claimWith p payload s).1 := by
  unfold claimWith
  split
  · split
    · exact claimAnalog_effect hp
    · split
      · exact .unchanged
      · exact claimDigital_effect hp
    · exact .unchanged
  · exact .unchanged

theorem releaseOwned_effect {ch : Channel} (ho : (look s.channels ch).owner = some p) (hu : planUse s ch = false) :
    Effect s (releaseOwned ch s).1 := by
  unfold releaseOwned
  split
  · next o subs hc => exact .released o ch subs hc hu
  · exact .freed p ch ho hu
  · exact .freed p ch ho hu
  · exact .unchanged
  · exact .unchanged

theorem releaseWith_effect : Effect s (releaseWith p payload s).1 := by
  unfold releaseWith
  split
  · split
    · exact .unchanged
    · split
      · exact .unchanged
      · next ho =>
        split
        · exact .unchanged
        · next hu => exact releaseOwned_effect (not_not.mp ho) (Bool.not_eq_true _ ▸ hu)
  · exact .unchanged

theorem subscribeWith_effect (hp : isOpen s p = true) : Effect s (subscribeWith p payload s).1 := by
  unfold subscribeWith
  split
  · split
    · exact .unchanged
    · split
      · next o subs hc =>
        split
        · exact .unchanged
        · next ho =>
          split
          · exact .unchanged
          · next hn =>
            split
            · exact .unchanged
            · next hl => exact .subscribed p _ o subs hp hc ho (by simpa using hn) (Nat.not_le.mp hl)
      all_goals exact .unchanged
  · exact .unchanged

theorem unsubscribeWith_effect : Effect s (unsubscribeWith p payload s).1 := by
  unfold unsubscribeWith
  split
  · split
    · exact .unchanged
    · split
      · exact .unsubscribed p _
      · exact .unchanged
  · exact .unchanged

theorem pinSetupWith_effect (hp : isOpen s p = true) : Effect s (pinSetupWith p payload s).1 := by
  unfold pinSetupWith
  split
  · split
    · split
      · next hc =>
        split
        · next ho =>
          subst ho
          exact .claimed _ _ _ hp (.inr ⟨_, hc⟩) (.inr (.inr ⟨_, rfl⟩))
        · exact .unchanged
      all_goals exact .unchanged
    · exact .unchanged
  · exact .unchanged

theorem pinDriveWith_effect (hp : isOpen s p = true) : Effect s (pinDriveWith p payload s).1 := by
  unfold pinDriveWith
  split
  · split
    · split
      · next hc =>
        split
        · next ho =>
          subst ho
          split
          · exact .unchanged
          · exact .claimed _ _ _ hp (.inr ⟨_, hc⟩) (.inr (.inr ⟨_, rfl⟩))
        · exact .unchanged
      all_goals exact .unchanged
    · exact .unchanged
  · exact .unchanged

theorem pinReadWith_effect : Effect s (pinReadWith p payload s).1 := by
  unfold pinReadWith
  split
  · split
    · exact .unchanged
    · split
      · split <;> exact .unchanged
      all_goals exact .unchanged
  · exact .unchanged

theorem channelInfoWith_effect : Effect s (channelInfoWith payload s).1 := by
  unfold channelInfoWith
  split
  · split <;> exact .unchanged
  · exact .unchanged

theorem claimReferenceWith_effect (hp : isOpen s p = true) : Effect s (claimReferenceWith p s).1 := by
  unfold claimReferenceWith
  split
  · next hh => exact .referenceClaimed p hp hh
  · split <;> exact .unchanged

theorem releaseReferenceWith_effect : Effect s (releaseReferenceWith p s).1 := by
  unfold releaseReferenceWith
  split
  · exact .referenceReleased
  · exact .unchanged

theorem selectExternal_effect (hh : s.reference.holder ≠ none) : Effect s (selectExternal s).1 := by
  unfold selectExternal
  split
  · next hx =>
    split
    · next hc => exact .switchTaken .internal hx hh fun _ => hc
    all_goals exact .unchanged
  · exact .unchanged
  · exact .unchanged
  · next hx => exact .switchWithdrawn .external hx hh
  · exact .unchanged
  · next n due hx => exact .switchTurned .external n due hx hh

theorem selectInternal_effect (hh : s.reference.holder ≠ none) : Effect s (selectInternal s).1 := by
  unfold selectInternal
  split
  · exact .unchanged
  · next hx => exact .switchWithdrawn .internal hx hh
  · next hx => exact .switchTaken .external hx hh nofun
  · exact .unchanged
  · next n due hx => exact .switchTurned .internal n due hx hh
  · exact .unchanged

theorem selectReferenceWith_effect : Effect s (selectReferenceWith p payload s).1 := by
  unfold selectReferenceWith
  split
  · split
    · exact .unchanged
    · split
      · next hh =>
        have held : s.reference.holder ≠ none := by simp [hh]
        split
        · exact selectExternal_effect held
        · exact selectInternal_effect held
      · exact .unchanged
  · exact .unchanged

theorem claimTimebaseWith_effect (hp : isOpen s p = true) : Effect s (claimTimebaseWith p s).1 := by
  unfold claimTimebaseWith
  split
  · exact .timebaseClaimed p hp
  · split <;> exact .unchanged

theorem releaseTimebaseWith_effect : Effect s (releaseTimebaseWith p s).1 := by
  unfold releaseTimebaseWith
  split
  · exact .timebaseReleased
  · exact .unchanged

theorem stageSlot_effect {sl : Slot} (hp : isOpen s p = true) : Effect s (stageSlot p sl s).1 := by
  unfold stageSlot
  split
  · exact .unchanged
  · exact .unchanged
  · split <;> exact .unchanged
  · split <;> exact .unchanged
  · split
    · exact .unchanged
    · split
      · exact .unchanged
      · next hl =>
        split
        · exact .unchanged
        · next id hid =>
          exact .staged p _ hp (by simpa [stagingFull] using hl) (List.find?_some (p := isFreeId s) hid)

theorem stageAddWith_effect (hp : isOpen s p = true) : Effect s (stageAddWith p payload s).1 := by
  unfold stageAddWith
  split
  · split
    · exact .unchanged
    · exact stageSlot_effect hp
  · exact .unchanged

theorem stageTarget_effect {id : SlotId} {e : Edit} (hp : isOpen s p = true) (he : stageable s e) :
    Effect s (stageTarget p id e s).1 := by
  have appended (hl : ¬stagingFull s p = true) : Effect s (appendEdit p e [] s).1 :=
    .staged p e hp (by simpa [stagingFull] using hl) he
  unfold stageTarget
  split
  · split
    · exact .unchanged
    · split
      · exact .unchanged
      · next hl => exact appended hl
  · split
    · split
      · exact .unchanged
      · next hl => exact appended hl
    · exact .unchanged

theorem stageMoveWith_effect (hp : isOpen s p = true) : Effect s (stageMoveWith p payload s).1 := by
  unfold stageMoveWith
  split
  · split
    · exact stageTarget_effect hp trivial
    · exact .unchanged
  · exact .unchanged

theorem stageDropWith_effect (hp : isOpen s p = true) : Effect s (stageDropWith p payload s).1 := by
  unfold stageDropWith
  split
  · split
    · exact stageTarget_effect hp trivial
    · exact .unchanged
  · exact .unchanged

theorem stageTimingRecord_effect {t : Timing} (hp : isOpen s p = true) (ht : t.lawful) :
    Effect s (stageTimingRecord p t s).1 := by
  unfold stageTimingRecord
  dsimp only
  split
  · exact .unchanged
  · split
    · exact .retimed p t hp ht
    · split
      · exact .unchanged
      · next hl => exact .staged p _ hp (by simpa [stagingFull] using hl) ht

theorem stageTimingWith_effect (hp : isOpen s p = true) : Effect s (stageTimingWith p payload s).1 := by
  unfold stageTimingWith
  split
  · split
    · exact .unchanged
    · next ht => exact stageTimingRecord_effect hp (timingArgs_lawful ht)
  · exact .unchanged

theorem commitWith_effect (hp : isOpen s p = true) : Effect s (commitWith p payload s).1 := by
  unfold commitWith
  dsimp only
  split
  · split
    · exact .unchanged
    · split
      · exact .unchanged
      · split
        · exact .unchanged
        · next c hb =>
          split
          · next hf => exact .committed p c hp hb hf
          · exact .unchanged
  · exact .unchanged

theorem planReadWith_effect : Effect s (planReadWith payload s).1 := by
  unfold planReadWith
  split
  · split <;> exact .unchanged
  · exact .unchanged

theorem submitEntry_effect {tag : Byte} {a : SubmitArgs} (hp : isOpen s p = true) :
    Effect s (submitEntry p tag a s).1 := by
  unfold submitEntry
  dsimp only
  split
  · exact .unchanged
  · split
    · exact .unchanged
    · next ht =>
      split
      · exact .unchanged
      · next hl =>
        split
        · exact .unchanged
        · exact .joined p _ hp (Nat.not_le.mp hl) (Bool.not_eq_true _ ▸ ht)

theorem submitWith_effect (hp : isOpen s p = true) : Effect s (submitWith p payload s).1 := by
  unfold submitWith
  split
  · split
    · exact .unchanged
    · exact submitEntry_effect hp
  · exact .unchanged

theorem cancelWith_effect : Effect s (cancelWith p payload s).1 := by
  unfold cancelWith
  split
  · split
    · exact .cancelled p _
    · split <;> exact .unchanged
  · exact .unchanged

theorem fetchResultsWith_effect : Effect s (fetchResultsWith p payload s).1 := by
  unfold fetchResultsWith
  split
  · split
    · exact .unchanged
    · exact .resultsFetched p _
  · exact .unchanged

theorem fetchEventsWith_effect : Effect s (fetchEventsWith p payload s).1 := by
  unfold fetchEventsWith
  split
  · split
    · exact .unchanged
    · exact .eventsFetched p _
  · exact .unchanged

theorem peekLatestWith_effect : Effect s (peekLatestWith payload s).1 := by
  unfold peekLatestWith
  split
  · split <;> exact .unchanged
  · exact .unchanged

theorem attachTo_effect {a : MonitorArgs} (hp : isOpen s p = true) : Effect s (attachTo p a s).1 := by
  unfold attachTo
  split
  · exact .unchanged
  · split
    · exact .unchanged
    · split
      · exact .unchanged
      · next hm =>
        split
        · exact .unchanged
        · exact .monitorAttached p a _ hp (Option.not_isSome_iff_eq_none.mp hm)

theorem attachMonitorWith_effect (hp : isOpen s p = true) : Effect s (attachMonitorWith p payload s).1 := by
  unfold attachMonitorWith
  split
  · split
    · exact .unchanged
    · exact attachTo_effect hp
  · exact .unchanged

theorem detachMonitorWith_effect : Effect s (detachMonitorWith p payload s).1 := by
  unfold detachMonitorWith
  split
  · split
    · exact .unchanged
    · split
      · exact .unchanged
      · split
        · exact .monitorFreed _
        · exact .unchanged
  · exact .unchanged

theorem monitorReadWith_effect : Effect s (monitorReadWith payload s).1 := by
  unfold monitorReadWith
  split
  · split <;> exact .unchanged
  · exact .unchanged

end Decisions

/-! ### The events of the hub -/

section Events

variable {s : State} {p : Port}

/-- What an event leads to: an outcome that goes on, by one effect. -/
def Result.byEffect (s : State) (r : Result) : Prop := ∃ t, r = .next t ∧ Effect s t

theorem byEffect_unchanged : Result.byEffect s (.next s) := ⟨s, rfl, .unchanged⟩

theorem execAnalogSettleEnd_effect {ch : Channel} : (execAnalogSettleEnd ch s).byEffect s := by
  unfold execAnalogSettleEnd
  split
  · next o n hc => exact ⟨_, rfl, .analogSettled ch o n hc⟩
  all_goals exact byEffect_unchanged

theorem execReferenceSettleEnd_effect : (execReferenceSettleEnd s).byEffect s := by
  unfold execReferenceSettleEnd
  split
  · next r n hx => exact ⟨_, rfl, .referenceSettled r n hx⟩
  all_goals exact byEffect_unchanged

theorem execConversionEnd_effect : (execConversionEnd s).byEffect s := by
  unfold execConversionEnd
  split
  · next c hc =>
    split
    · exact ⟨_, rfl, .converted c hc⟩
    · exact byEffect_unchanged
  · exact byEffect_unchanged

theorem execLeaseFall_effect : (execLeaseFall p s).byEffect s := by
  unfold execLeaseFall
  split
  · next l hx =>
    split
    · exact ⟨_, rfl, .fallen p l _ hx⟩
    · exact byEffect_unchanged
  all_goals exact byEffect_unchanged

theorem execLeaseExpiry_effect : (execLeaseExpiry p s).byEffect s := by
  unfold execLeaseExpiry
  split
  · next hdue =>
    refine ⟨_, rfl, .ended p .revoked ?_ nofun⟩
    unfold leaseExpiryDue at hdue
    unfold isOpen
    cases hl : (look s.sessions p).lease with
    | none => simp [hl] at hdue
    | some l => rfl
  · exact byEffect_unchanged

/-- The boundary that the frame's own count takes is a miss only in LOCKED, and needs a running frame (04 R69, R71). -/
theorem countedBoundary_some {o : SyncOutcome} (h : countedBoundary s = some o) :
    running s = true ∧ (o = .miss → s.timebase.state = .locked) := by
  unfold countedBoundary at h
  unfold running
  split at h
  · cases h
  · cases h
  all_goals
    next hx =>
      split at h
      · cases h
        exact ⟨by rw [hx]; rfl, fun hm => by first | exact hx | cases hm⟩
      · cases h

theorem execFrameBoundary_effect : (execFrameBoundary s).byEffect s := by
  unfold execFrameBoundary
  split
  · next o ho =>
    obtain ⟨hr, hm⟩ := countedBoundary_some ho
    exact ⟨_, rfl, .boundary o hr hm⟩
  · exact byEffect_unchanged

theorem execHuntingLimit_effect : (execHuntingLimit s).byEffect s := by
  unfold execHuntingLimit huntingLimitDue
  cases hx : s.timebase.state with
  | hunting n =>
    dsimp only
    split
    · exact ⟨_, rfl, .huntingEnded n hx⟩
    · exact byEffect_unchanged
  | stopped | freeRun | locked | flywheel => exact byEffect_unchanged

theorem execPhaseArrival_effect : (execPhaseArrival s).byEffect s := by
  unfold execPhaseArrival
  split
  · exact ⟨_, rfl, .phaseArrived⟩
  · exact byEffect_unchanged

theorem edgeInFrame_effect (hr : running s = true) : Effect s (edgeInFrame s) := by
  unfold edgeInFrame
  split
  · exact .boundary .accepted hr nofun
  · exact .spurious

end Events

/-! ### What lies outside the blocks -/

/-- `t` differs from `s` only outside the blocks: in the ports, in the model's moment, in a reset or a sampled edge that is
over; and no port counts more than 65,535 errors where none did (11 R181). -/
structure Outside (s t : State) : Prop where
  blocks : t = { s with
    moment := t.moment, inReset := t.inReset, syncEdgeSampled := t.syncEdgeSampled, ports := t.ports }
  errors : (∀ p : Port, (look s.ports p).linkErrors ≤ 65535) → ∀ p : Port, (look t.ports p).linkErrors ≤ 65535

/-- One effect on the blocks, with changes outside them before and after it. -/
def Carried (s t : State) : Prop := ∃ a b, Outside s a ∧ Effect a b ∧ Outside b t

section Outsides

variable {s t u : State} {p : Port} {q : LinkSeq} {code : Byte} {payload : List Byte} {n : Nat} {f : State → Decision}

theorem Outside.refl : Outside s s := ⟨rfl, id⟩

theorem Outside.trans (h : Outside s t) (h' : Outside t u) : Outside s u := by
  refine ⟨?_, fun hs => h'.errors (h.errors hs)⟩
  rw [h'.blocks, h.blocks]

theorem Outside.setPort {lp : LinkPort} (h : lp.linkErrors ≤ max 65535 (look s.ports p).linkErrors) :
    Outside s (setPort p lp s) := by
  refine ⟨rfl, fun hs x => ?_⟩
  rw [setPort_ports, look_put]
  split
  · have := hs p
    omega
  · exact hs x

theorem Outside.shiftOut : Outside s (shiftOut p n s) := .setPort (le_max_right _ _)

theorem Outside.releaseSelect : Outside s (releaseSelect p s) := .setPort (le_max_right _ _)

theorem Outside.overran : Outside s (Machine.setPort p (look s.ports p).overran s) :=
  .setPort ((Nat.min_le_left _ _).trans (le_max_left _ _))

theorem Outside.damaged : Outside s (Machine.setPort p (look s.ports p).damaged s) :=
  .setPort ((Nat.min_le_left _ _).trans (le_max_left _ _))

theorem Outside.storeReply : Outside s (storeReply p s) := by
  unfold Machine.storeReply
  split
  · exact .refl
  · refine ⟨rfl, fun hs x => ?_⟩
    dsimp only
    rw [setPort_ports, look_put]
    split
    · exact hs p
    · exact hs x

theorem Carried.of_outside (h : Outside s t) : Carried s t := ⟨s, s, .refl, .unchanged, h⟩

theorem Carried.of_effect (h : Effect s t) : Carried s t := ⟨s, t, .refl, h, .refl⟩

theorem takeFrame_carried (hf : ∀ x, Effect x (f x).1) : Carried s (takeFrame p q code payload f s) := by
  unfold takeFrame
  split
  · exact .of_outside .releaseSelect
  · dsimp only
    split
    · exact .of_outside (.trans .shiftOut .overran)
    · exact .of_outside (.trans .shiftOut .damaged)
    · exact .of_outside (.trans .shiftOut (.setPort (le_max_right _ _)))
    · have before := (Outside.shiftOut (s := s) (p := p) (n := 4 + payload.length)).trans
        (.setPort (p := p) (lp := (look (Machine.shiftOut p (4 + payload.length) s).ports p).tookNew
          (lastFrameOf code q payload)) (le_max_right _ _))
      exact ⟨_, _, before, hf _, .setPort (le_max_right _ _)⟩

/-- A command that goes on by one effect on the blocks. -/
def Result.carried (s : State) (r : Result) : Prop := ∃ t, r = .next t ∧ Carried s t

theorem Result.byEffect.carried {r : Result} (h : r.byEffect s) : r.carried s := by
  obtain ⟨t, hr, ht⟩ := h
  exact ⟨t, hr, .of_effect ht⟩

theorem takeRequest_carried (hf : ∀ x, Effect x (f x).1) : (takeRequest p q code n payload f s).carried s := by
  refine ⟨_, rfl, takeFrame_carried fun x => ?_⟩
  split
  · exact hf x
  · exact .unchanged

theorem sessionRequest_carried (hf : ∀ x, isOpen x p = true → Effect x (f x).1) :
    (takeRequest p q code n payload (inSession p f) s).carried s := by
  refine takeRequest_carried fun x => ?_
  unfold inSession
  split
  · next l hl => exact hf x (isOpen_iff.mpr ⟨l, hl⟩)
  all_goals exact .unchanged

theorem execSyncEdge_carried : (execSyncEdge s).carried s := by
  have edge : Outside s { s with syncEdgeSampled := false } := ⟨rfl, id⟩
  unfold execSyncEdge
  split
  · exact ⟨s, rfl, .of_outside .refl⟩
  · dsimp only
    split
    · exact ⟨_, rfl, .of_outside edge⟩
    · exact ⟨_, rfl, .of_outside edge⟩
    · next k hx => exact ⟨_, rfl, _, _, edge, .synchronised k hx, .refl⟩
    all_goals
      next hx => exact ⟨_, rfl, _, _, edge, edgeInFrame_effect (by unfold running; rw [hx]; rfl), .refl⟩

theorem execCollectTransaction_carried {lands : Bool} : (execCollectTransaction p lands n s).carried s := by
  unfold execCollectTransaction
  split
  · exact ⟨s, rfl, .of_outside .refl⟩
  · split
    · exact ⟨_, rfl, .of_outside .releaseSelect⟩
    · refine ⟨_, rfl, .of_outside (.trans (t := if lands = true then storeReply p s else s) ?_ ?_)⟩
      · split
        · exact .storeReply
        · exact .refl
      · exact .setPort (le_max_right _ _)

theorem execFrameDiscarded_carried {bytes : List Byte} : (execFrameDiscarded p bytes s).carried s := by
  unfold execFrameDiscarded
  split
  · exact ⟨s, rfl, .of_outside .refl⟩
  · split
    · exact ⟨_, rfl, .of_outside .releaseSelect⟩
    · dsimp only
      split
      · exact ⟨_, rfl, .of_outside (.trans .shiftOut .overran)⟩
      · split
        · exact ⟨_, rfl, .of_outside (.trans .shiftOut .damaged)⟩
        · exact ⟨s, rfl, .of_outside .refl⟩

theorem execRetransmission_carried : (execRetransmission p q code payload s).carried s := by
  unfold execRetransmission
  split
  · exact ⟨s, rfl, .of_outside .refl⟩
  · split
    · exact ⟨_, rfl, .of_outside .releaseSelect⟩
    · dsimp only
      split
      · exact ⟨_, rfl, .of_outside (.trans .shiftOut .overran)⟩
      · exact ⟨_, rfl, .of_outside (.trans .shiftOut .damaged)⟩
      · exact ⟨_, rfl, .of_outside (.trans .shiftOut (.setPort (le_max_right _ _)))⟩
      · exact ⟨s, rfl, .of_outside .refl⟩

theorem execUnknownRequest_carried : (execUnknownRequest p q code payload s).carried s := by
  unfold execUnknownRequest
  split
  · exact ⟨s, rfl, .of_outside .refl⟩
  · exact ⟨_, rfl, takeFrame_carried fun _ => .unchanged⟩

end Outsides

/-! ### Every command and every step -/

/-- Every command goes on, by one effect on the blocks. -/
theorem exec_carried (c : Instr) (s : State) : Result.carried s (exec c s) := by
  cases c with
  | identify | status => exact takeRequest_carried fun _ => by exact .unchanged
  | openSession => exact takeRequest_carried fun _ => openWith_effect
  | closeSession => exact sessionRequest_carried fun _ => closeWith_effect
  | renew => exact sessionRequest_carried fun _ _ => renewWith_effect
  | claim => exact sessionRequest_carried fun _ => claimWith_effect
  | release => exact sessionRequest_carried fun _ _ => releaseWith_effect
  | subscribe => exact sessionRequest_carried fun _ => subscribeWith_effect
  | unsubscribe => exact sessionRequest_carried fun _ _ => unsubscribeWith_effect
  | pinSetup => exact sessionRequest_carried fun _ => pinSetupWith_effect
  | pinDrive => exact sessionRequest_carried fun _ => pinDriveWith_effect
  | pinRead => exact sessionRequest_carried fun _ _ => pinReadWith_effect
  | channelInfo => exact sessionRequest_carried fun _ _ => channelInfoWith_effect
  | claimReference => exact sessionRequest_carried fun _ => claimReferenceWith_effect
  | releaseReference => exact sessionRequest_carried fun _ _ => releaseReferenceWith_effect
  | selectReference => exact sessionRequest_carried fun _ _ => selectReferenceWith_effect
  | referenceRead | timebaseRead => exact sessionRequest_carried fun _ _ => by exact .unchanged
  | claimTimebase => exact sessionRequest_carried fun _ => claimTimebaseWith_effect
  | releaseTimebase => exact sessionRequest_carried fun _ _ => releaseTimebaseWith_effect
  | stageAdd => exact sessionRequest_carried fun _ => stageAddWith_effect
  | stageMove => exact sessionRequest_carried fun _ => stageMoveWith_effect
  | stageDrop => exact sessionRequest_carried fun _ => stageDropWith_effect
  | stageTiming => exact sessionRequest_carried fun _ => stageTimingWith_effect
  | stageClear p => exact sessionRequest_carried fun _ _ => by exact .stagingCleared p
  | commit => exact sessionRequest_carried fun _ => commitWith_effect
  | planRead => exact sessionRequest_carried fun _ _ => planReadWith_effect
  | submit => exact sessionRequest_carried fun _ => submitWith_effect
  | cancel => exact sessionRequest_carried fun _ _ => cancelWith_effect
  | fetchResults => exact sessionRequest_carried fun _ _ => fetchResultsWith_effect
  | peekLatest => exact sessionRequest_carried fun _ _ => peekLatestWith_effect
  | attachMonitor => exact sessionRequest_carried fun _ => attachMonitorWith_effect
  | detachMonitor => exact sessionRequest_carried fun _ _ => detachMonitorWith_effect
  | monitorRead => exact sessionRequest_carried fun _ _ => monitorReadWith_effect
  | fetchEvents => exact sessionRequest_carried fun _ _ => fetchEventsWith_effect
  | collectTransaction => exact execCollectTransaction_carried
  | frameDiscarded => exact execFrameDiscarded_carried
  | retransmission => exact execRetransmission_carried
  | unknownRequest => exact execUnknownRequest_carried
  | replyStored => exact ⟨_, rfl, .of_outside .storeReply⟩
  | syncEdge => exact execSyncEdge_carried
  | deviceReset cause => exact ⟨_, rfl, .of_effect (.reset cause)⟩
  | resetEnd => exact ⟨_, rfl, .of_outside ⟨rfl, id⟩⟩
  | analogSettleEnd => exact execAnalogSettleEnd_effect.carried
  | referenceSettleEnd => exact execReferenceSettleEnd_effect.carried
  | frameBoundary => exact execFrameBoundary_effect.carried
  | huntingLimit => exact execHuntingLimit_effect.carried
  | phaseArrival => exact execPhaseArrival_effect.carried
  | conversionEnd => exact execConversionEnd_effect.carried
  | leaseFall => exact execLeaseFall_effect.carried
  | leaseExpiry => exact execLeaseExpiry_effect.carried

/-- The idle step lets a tick pass only while no event is due (00 Time; log 3). -/
theorem dueEvents_of_idleChoice {s : State} (h : idleChoice s = none) : dueEvents s = [] := by
  by_contra hdue
  have hsome : ∀ c ∈ idleChoices s, c ≠ none := by
    unfold idleChoices
    cases hd : dueEvents s with
    | nil => exact absurd hd hdue
    | cons e es => simp [or_imp, forall_and]
  unfold idleChoice at h
  split at h
  · next hnil =>
    unfold idleChoices at hnil
    cases hd : dueEvents s with
    | nil => exact hdue hd
    | cons e es => simp [hd] at hnil
  · next c hc => exact hsome c (by simp [hc]) h
  · next c rest hne hc =>
    have hlt : Config.choice s.moment % (rest.length + 1) < (c :: rest).length := Nat.mod_lt _ (Nat.succ_pos _)
    rw [List.getD_eq_getElem _ _ hlt] at h
    have hmem : (c :: rest)[Config.choice s.moment % (rest.length + 1)] ∈ idleChoices s := by
      rw [hc]
      exact List.getElem_mem hlt
    exact hsome _ hmem h

/-- A law that changes outside the blocks keep, that every effect keeps, and that sampling and ticks keep, is kept by every
step. -/
theorem step_keeps {P : State → Prop} (waiting : ∀ s pending moment, P s → P { s with pending, moment })
    (outside : ∀ s t, Outside s t → P s → P t) (effect : ∀ s t, Effect s t → P s → P t)
    (sampled : ∀ s, P s → P (sampleSelects s)) (ticked : ∀ s, dueEvents s = [] → P s → P (tick s))
    {s t : State} (h : P s) (hstep : step s = .next t) : P t := by
  have carried : ∀ c s, P s → exec c s = .next t → P t := by
    intro c s h he
    obtain ⟨u, hu, a, b, ha, hab, hb⟩ := exec_carried c s
    obtain rfl : u = t := by simpa [hu] using he
    exact outside _ _ hb (effect _ _ hab (outside _ _ ha h))
  unfold step at hstep
  split at hstep
  · next c rest _ => exact carried c _ (waiting s rest s.moment h) hstep
  · unfold idleStep at hstep
    split at hstep
    · cases hstep
      exact sampled s h
    · split at hstep
      · next c _ => exact carried c _ (waiting s s.pending (s.moment + 1) h) hstep
      · next hc =>
        cases hstep
        exact ticked s (dueEvents_of_idleChoice hc) h

end Sys2Proof.Machine

/-! What each shared operation keeps, read off its frame: the fields that the laws of the blocks read. -/

namespace Sys2Proof.Machine

@[simp] theorem offerResults_fields (os : List (ResultRecord × Port)) (s : State) :
    (offerResults os s).pending = s.pending ∧ (offerResults os s).clock = s.clock
      ∧ (offerResults os s).ports = s.ports ∧ (offerResults os s).sessions = s.sessions
      ∧ (offerResults os s).channels = s.channels ∧ (offerResults os s).reference = s.reference
      ∧ (offerResults os s).timebase = s.timebase ∧ (offerResults os s).activeTiming = s.activeTiming
      ∧ (offerResults os s).nextTiming = s.nextTiming ∧ (offerResults os s).activePlan = s.activePlan
      ∧ (offerResults os s).nextPlan = s.nextPlan ∧ (offerResults os s).staging = s.staging
      ∧ (offerResults os s).noted = s.noted ∧ (offerResults os s).requests = s.requests
      ∧ (offerResults os s).inFlight = s.inFlight ∧ (offerResults os s).monitors = s.monitors
      ∧ (offerResults os s).events = s.events := by
  simp [offerResults]

@[simp] theorem offerEvents_fields (os : List (EventKind × Port)) (s : State) :
    (offerEvents os s).pending = s.pending ∧ (offerEvents os s).clock = s.clock ∧ (offerEvents os s).ports = s.ports
      ∧ (offerEvents os s).sessions = s.sessions ∧ (offerEvents os s).channels = s.channels
      ∧ (offerEvents os s).reference = s.reference ∧ (offerEvents os s).timebase = s.timebase
      ∧ (offerEvents os s).activeTiming = s.activeTiming ∧ (offerEvents os s).nextTiming = s.nextTiming
      ∧ (offerEvents os s).activePlan = s.activePlan ∧ (offerEvents os s).nextPlan = s.nextPlan
      ∧ (offerEvents os s).staging = s.staging ∧ (offerEvents os s).noted = s.noted
      ∧ (offerEvents os s).requests = s.requests ∧ (offerEvents os s).inFlight = s.inFlight
      ∧ (offerEvents os s).results = s.results ∧ (offerEvents os s).monitors = s.monitors := by
  simp [offerEvents]

@[simp] theorem broadcast_fields (k : EventKind) (s : State) :
    (broadcast k s).pending = s.pending ∧ (broadcast k s).clock = s.clock ∧ (broadcast k s).ports = s.ports
      ∧ (broadcast k s).sessions = s.sessions ∧ (broadcast k s).channels = s.channels
      ∧ (broadcast k s).reference = s.reference ∧ (broadcast k s).timebase = s.timebase
      ∧ (broadcast k s).activeTiming = s.activeTiming ∧ (broadcast k s).nextTiming = s.nextTiming
      ∧ (broadcast k s).activePlan = s.activePlan ∧ (broadcast k s).nextPlan = s.nextPlan
      ∧ (broadcast k s).staging = s.staging ∧ (broadcast k s).noted = s.noted ∧ (broadcast k s).requests = s.requests
      ∧ (broadcast k s).inFlight = s.inFlight ∧ (broadcast k s).results = s.results
      ∧ (broadcast k s).monitors = s.monitors := by
  simp [broadcast]

@[simp] theorem broadcasts_fields (ks : List EventKind) (s : State) :
    (ks.foldl (fun x k => broadcast k x) s).pending = s.pending
      ∧ (ks.foldl (fun x k => broadcast k x) s).clock = s.clock
      ∧ (ks.foldl (fun x k => broadcast k x) s).ports = s.ports
      ∧ (ks.foldl (fun x k => broadcast k x) s).sessions = s.sessions
      ∧ (ks.foldl (fun x k => broadcast k x) s).channels = s.channels
      ∧ (ks.foldl (fun x k => broadcast k x) s).reference = s.reference
      ∧ (ks.foldl (fun x k => broadcast k x) s).timebase = s.timebase
      ∧ (ks.foldl (fun x k => broadcast k x) s).activeTiming = s.activeTiming
      ∧ (ks.foldl (fun x k => broadcast k x) s).nextTiming = s.nextTiming
      ∧ (ks.foldl (fun x k => broadcast k x) s).activePlan = s.activePlan
      ∧ (ks.foldl (fun x k => broadcast k x) s).nextPlan = s.nextPlan
      ∧ (ks.foldl (fun x k => broadcast k x) s).staging = s.staging
      ∧ (ks.foldl (fun x k => broadcast k x) s).noted = s.noted
      ∧ (ks.foldl (fun x k => broadcast k x) s).requests = s.requests
      ∧ (ks.foldl (fun x k => broadcast k x) s).inFlight = s.inFlight
      ∧ (ks.foldl (fun x k => broadcast k x) s).results = s.results
      ∧ (ks.foldl (fun x k => broadcast k x) s).monitors = s.monitors := by
  rw [broadcasts_frame]
  simp

@[simp] theorem removeEntries_fields (f : ResultFlags) (pick : RequestEntry → Bool) (ps : List Port) (s : State) :
    (removeEntries f pick ps s).pending = s.pending ∧ (removeEntries f pick ps s).clock = s.clock
      ∧ (removeEntries f pick ps s).ports = s.ports ∧ (removeEntries f pick ps s).sessions = s.sessions
      ∧ (removeEntries f pick ps s).channels = s.channels ∧ (removeEntries f pick ps s).reference = s.reference
      ∧ (removeEntries f pick ps s).timebase = s.timebase ∧ (removeEntries f pick ps s).activeTiming = s.activeTiming
      ∧ (removeEntries f pick ps s).nextTiming = s.nextTiming ∧ (removeEntries f pick ps s).activePlan = s.activePlan
      ∧ (removeEntries f pick ps s).nextPlan = s.nextPlan ∧ (removeEntries f pick ps s).staging = s.staging
      ∧ (removeEntries f pick ps s).noted = s.noted ∧ (removeEntries f pick ps s).inFlight = s.inFlight
      ∧ (removeEntries f pick ps s).monitors = s.monitors ∧ (removeEntries f pick ps s).events = s.events := by
  simp [removeEntries]

@[simp] theorem withdrawUsers_fields (ch : Channel) (c : LossCause) (o : Port) (subs : List Port) (s : State) :
    (withdrawUsers ch c o subs s).pending = s.pending ∧ (withdrawUsers ch c o subs s).clock = s.clock
      ∧ (withdrawUsers ch c o subs s).ports = s.ports ∧ (withdrawUsers ch c o subs s).sessions = s.sessions
      ∧ (withdrawUsers ch c o subs s).channels = s.channels ∧ (withdrawUsers ch c o subs s).reference = s.reference
      ∧ (withdrawUsers ch c o subs s).timebase = s.timebase
      ∧ (withdrawUsers ch c o subs s).activeTiming = s.activeTiming
      ∧ (withdrawUsers ch c o subs s).nextTiming = s.nextTiming
      ∧ (withdrawUsers ch c o subs s).activePlan = s.activePlan ∧ (withdrawUsers ch c o subs s).nextPlan = s.nextPlan
      ∧ (withdrawUsers ch c o subs s).staging = s.staging ∧ (withdrawUsers ch c o subs s).noted = s.noted
      ∧ (withdrawUsers ch c o subs s).inFlight = s.inFlight ∧ (withdrawUsers ch c o subs s).monitors = s.monitors := by
  simp [withdrawUsers]

@[simp] theorem arbitrate_fields (s : State) :
    (arbitrate s).pending = s.pending ∧ (arbitrate s).clock = s.clock ∧ (arbitrate s).ports = s.ports
      ∧ (arbitrate s).sessions = s.sessions ∧ (arbitrate s).channels = s.channels
      ∧ (arbitrate s).reference = s.reference ∧ (arbitrate s).timebase = s.timebase
      ∧ (arbitrate s).activeTiming = s.activeTiming ∧ (arbitrate s).nextTiming = s.nextTiming
      ∧ (arbitrate s).nextPlan = s.nextPlan ∧ (arbitrate s).staging = s.staging ∧ (arbitrate s).noted = s.noted
      ∧ (arbitrate s).results = s.results ∧ (arbitrate s).monitors = s.monitors ∧ (arbitrate s).events = s.events := by
  rw [arbitrate_frame]
  simp

@[simp] theorem arbitrateIf_fields (b : Bool) (s : State) :
    (arbitrateIf b s).pending = s.pending ∧ (arbitrateIf b s).clock = s.clock ∧ (arbitrateIf b s).ports = s.ports
      ∧ (arbitrateIf b s).sessions = s.sessions ∧ (arbitrateIf b s).channels = s.channels
      ∧ (arbitrateIf b s).reference = s.reference ∧ (arbitrateIf b s).timebase = s.timebase
      ∧ (arbitrateIf b s).activeTiming = s.activeTiming ∧ (arbitrateIf b s).nextTiming = s.nextTiming
      ∧ (arbitrateIf b s).nextPlan = s.nextPlan ∧ (arbitrateIf b s).staging = s.staging
      ∧ (arbitrateIf b s).noted = s.noted ∧ (arbitrateIf b s).results = s.results
      ∧ (arbitrateIf b s).monitors = s.monitors ∧ (arbitrateIf b s).events = s.events := by
  rw [arbitrateIf_frame]
  simp

@[simp] theorem freeMonitor_fields (m : MonitorId) (s : State) :
    (freeMonitor m s).pending = s.pending ∧ (freeMonitor m s).clock = s.clock ∧ (freeMonitor m s).ports = s.ports
      ∧ (freeMonitor m s).sessions = s.sessions ∧ (freeMonitor m s).channels = s.channels
      ∧ (freeMonitor m s).reference = s.reference ∧ (freeMonitor m s).timebase = s.timebase
      ∧ (freeMonitor m s).activeTiming = s.activeTiming ∧ (freeMonitor m s).nextTiming = s.nextTiming
      ∧ (freeMonitor m s).activePlan = s.activePlan ∧ (freeMonitor m s).nextPlan = s.nextPlan
      ∧ (freeMonitor m s).staging = s.staging ∧ (freeMonitor m s).noted = s.noted
      ∧ (freeMonitor m s).requests = s.requests ∧ (freeMonitor m s).results = s.results
      ∧ (freeMonitor m s).events = s.events := by
  simp [freeMonitor]

@[simp] theorem detachLeavings_fields (ids : List SlotId) (s : State) :
    (ids.foldl detachLeaving s).pending = s.pending ∧ (ids.foldl detachLeaving s).clock = s.clock
      ∧ (ids.foldl detachLeaving s).ports = s.ports ∧ (ids.foldl detachLeaving s).sessions = s.sessions
      ∧ (ids.foldl detachLeaving s).channels = s.channels ∧ (ids.foldl detachLeaving s).reference = s.reference
      ∧ (ids.foldl detachLeaving s).timebase = s.timebase ∧ (ids.foldl detachLeaving s).activeTiming = s.activeTiming
      ∧ (ids.foldl detachLeaving s).nextTiming = s.nextTiming ∧ (ids.foldl detachLeaving s).activePlan = s.activePlan
      ∧ (ids.foldl detachLeaving s).nextPlan = s.nextPlan ∧ (ids.foldl detachLeaving s).staging = s.staging
      ∧ (ids.foldl detachLeaving s).noted = s.noted ∧ (ids.foldl detachLeaving s).requests = s.requests
      ∧ (ids.foldl detachLeaving s).results = s.results := by
  rw [detachLeavings_frame]
  simp

@[simp] theorem deliver_fields (c : InFlight) (s : State) :
    (deliver c s).pending = s.pending ∧ (deliver c s).clock = s.clock ∧ (deliver c s).ports = s.ports
      ∧ (deliver c s).sessions = s.sessions ∧ (deliver c s).channels = s.channels
      ∧ (deliver c s).reference = s.reference ∧ (deliver c s).timebase = s.timebase
      ∧ (deliver c s).activeTiming = s.activeTiming ∧ (deliver c s).nextTiming = s.nextTiming
      ∧ (deliver c s).activePlan = s.activePlan ∧ (deliver c s).nextPlan = s.nextPlan
      ∧ (deliver c s).staging = s.staging ∧ (deliver c s).noted = s.noted ∧ (deliver c s).requests = s.requests
      ∧ (deliver c s).inFlight = s.inFlight := by
  rw [deliver_frame]
  simp

@[simp] theorem takeSwitch_fields (r : Ref) (s : State) :
    (takeSwitch r s).pending = s.pending ∧ (takeSwitch r s).clock = s.clock ∧ (takeSwitch r s).ports = s.ports
      ∧ (takeSwitch r s).sessions = s.sessions ∧ (takeSwitch r s).timebase = s.timebase
      ∧ (takeSwitch r s).activeTiming = s.activeTiming ∧ (takeSwitch r s).nextTiming = s.nextTiming
      ∧ (takeSwitch r s).activePlan = s.activePlan ∧ (takeSwitch r s).nextPlan = s.nextPlan
      ∧ (takeSwitch r s).staging = s.staging ∧ (takeSwitch r s).noted = s.noted
      ∧ (takeSwitch r s).requests = s.requests ∧ (takeSwitch r s).inFlight = s.inFlight
      ∧ (takeSwitch r s).results = s.results ∧ (takeSwitch r s).monitors = s.monitors
      ∧ (takeSwitch r s).events = s.events := by
  rw [takeSwitch_frame]
  simp

@[simp] theorem withdrawSwitch_fields (r : Ref) (s : State) :
    (withdrawSwitch r s).pending = s.pending ∧ (withdrawSwitch r s).clock = s.clock
      ∧ (withdrawSwitch r s).ports = s.ports ∧ (withdrawSwitch r s).sessions = s.sessions
      ∧ (withdrawSwitch r s).timebase = s.timebase ∧ (withdrawSwitch r s).activeTiming = s.activeTiming
      ∧ (withdrawSwitch r s).nextTiming = s.nextTiming ∧ (withdrawSwitch r s).activePlan = s.activePlan
      ∧ (withdrawSwitch r s).nextPlan = s.nextPlan ∧ (withdrawSwitch r s).staging = s.staging
      ∧ (withdrawSwitch r s).noted = s.noted ∧ (withdrawSwitch r s).requests = s.requests
      ∧ (withdrawSwitch r s).inFlight = s.inFlight ∧ (withdrawSwitch r s).results = s.results
      ∧ (withdrawSwitch r s).monitors = s.monitors ∧ (withdrawSwitch r s).events = s.events := by
  rw [withdrawSwitch_frame]
  simp

@[simp] theorem setRefState_fields (x : RefState) (s : State) :
    (setRefState x s).pending = s.pending ∧ (setRefState x s).clock = s.clock ∧ (setRefState x s).ports = s.ports
      ∧ (setRefState x s).sessions = s.sessions ∧ (setRefState x s).channels = s.channels
      ∧ (setRefState x s).timebase = s.timebase ∧ (setRefState x s).activeTiming = s.activeTiming
      ∧ (setRefState x s).nextTiming = s.nextTiming ∧ (setRefState x s).activePlan = s.activePlan
      ∧ (setRefState x s).nextPlan = s.nextPlan ∧ (setRefState x s).staging = s.staging
      ∧ (setRefState x s).noted = s.noted ∧ (setRefState x s).requests = s.requests
      ∧ (setRefState x s).inFlight = s.inFlight ∧ (setRefState x s).results = s.results
      ∧ (setRefState x s).monitors = s.monitors ∧ (setRefState x s).events = s.events := by
  simp [setRefState]

@[simp] theorem beginSettle_fields (s : State) :
    (beginSettle s).pending = s.pending ∧ (beginSettle s).clock = s.clock ∧ (beginSettle s).ports = s.ports
      ∧ (beginSettle s).sessions = s.sessions ∧ (beginSettle s).channels = s.channels
      ∧ (beginSettle s).timebase = s.timebase ∧ (beginSettle s).activeTiming = s.activeTiming
      ∧ (beginSettle s).nextTiming = s.nextTiming ∧ (beginSettle s).activePlan = s.activePlan
      ∧ (beginSettle s).nextPlan = s.nextPlan ∧ (beginSettle s).staging = s.staging ∧ (beginSettle s).noted = s.noted
      ∧ (beginSettle s).requests = s.requests ∧ (beginSettle s).inFlight = s.inFlight
      ∧ (beginSettle s).results = s.results ∧ (beginSettle s).monitors = s.monitors
      ∧ (beginSettle s).events = s.events := by
  rw [beginSettle_frame]
  simp

@[simp] theorem loseHolder_fields (s : State) :
    (loseHolder s).pending = s.pending ∧ (loseHolder s).clock = s.clock ∧ (loseHolder s).ports = s.ports
      ∧ (loseHolder s).sessions = s.sessions ∧ (loseHolder s).timebase = s.timebase
      ∧ (loseHolder s).activeTiming = s.activeTiming ∧ (loseHolder s).nextTiming = s.nextTiming
      ∧ (loseHolder s).activePlan = s.activePlan ∧ (loseHolder s).nextPlan = s.nextPlan
      ∧ (loseHolder s).staging = s.staging ∧ (loseHolder s).noted = s.noted ∧ (loseHolder s).requests = s.requests
      ∧ (loseHolder s).inFlight = s.inFlight ∧ (loseHolder s).results = s.results
      ∧ (loseHolder s).monitors = s.monitors ∧ (loseHolder s).events = s.events := by
  rw [loseHolder_frame]
  simp

@[simp] theorem settleEnded_fields (r : Ref) (s : State) :
    (settleEnded r s).pending = s.pending ∧ (settleEnded r s).clock = s.clock ∧ (settleEnded r s).ports = s.ports
      ∧ (settleEnded r s).sessions = s.sessions ∧ (settleEnded r s).timebase = s.timebase
      ∧ (settleEnded r s).activeTiming = s.activeTiming ∧ (settleEnded r s).nextTiming = s.nextTiming
      ∧ (settleEnded r s).activePlan = s.activePlan ∧ (settleEnded r s).nextPlan = s.nextPlan
      ∧ (settleEnded r s).staging = s.staging ∧ (settleEnded r s).noted = s.noted
      ∧ (settleEnded r s).requests = s.requests ∧ (settleEnded r s).inFlight = s.inFlight
      ∧ (settleEnded r s).results = s.results ∧ (settleEnded r s).monitors = s.monitors := by
  cases r <;> simp [settleEnded]

@[simp] theorem endConversion_fields (c : InFlight) (s : State) :
    (endConversion c s).pending = s.pending ∧ (endConversion c s).clock = s.clock
      ∧ (endConversion c s).ports = s.ports ∧ (endConversion c s).sessions = s.sessions
      ∧ (endConversion c s).channels = s.channels ∧ (endConversion c s).timebase = s.timebase
      ∧ (endConversion c s).activeTiming = s.activeTiming ∧ (endConversion c s).nextTiming = s.nextTiming
      ∧ (endConversion c s).nextPlan = s.nextPlan ∧ (endConversion c s).staging = s.staging
      ∧ (endConversion c s).noted = s.noted ∧ (endConversion c s).requests = s.requests := by
  unfold endConversion
  cases c.discard <;> simp

@[simp] theorem phaseArrival_fields (s : State) :
    (phaseArrival s).pending = s.pending ∧ (phaseArrival s).clock = s.clock ∧ (phaseArrival s).ports = s.ports
      ∧ (phaseArrival s).sessions = s.sessions ∧ (phaseArrival s).channels = s.channels
      ∧ (phaseArrival s).reference = s.reference ∧ (phaseArrival s).timebase = s.timebase
      ∧ (phaseArrival s).activeTiming = s.activeTiming ∧ (phaseArrival s).nextTiming = s.nextTiming
      ∧ (phaseArrival s).nextPlan = s.nextPlan ∧ (phaseArrival s).staging = s.staging
      ∧ (phaseArrival s).noted = s.noted ∧ (phaseArrival s).requests = s.requests
      ∧ (phaseArrival s).inFlight = s.inFlight ∧ (phaseArrival s).monitors = s.monitors
      ∧ (phaseArrival s).events = s.events := by
  rw [phaseArrival_frame]
  simp

@[simp] theorem startFrame0_fields (st : TimebaseState) (also : List EventKind) (s : State) :
    (startFrame0 st also s).pending = s.pending ∧ (startFrame0 st also s).clock = s.clock
      ∧ (startFrame0 st also s).ports = s.ports ∧ (startFrame0 st also s).sessions = s.sessions
      ∧ (startFrame0 st also s).channels = s.channels ∧ (startFrame0 st also s).reference = s.reference
      ∧ (startFrame0 st also s).activeTiming = s.activeTiming ∧ (startFrame0 st also s).nextTiming = s.nextTiming
      ∧ (startFrame0 st also s).nextPlan = s.nextPlan ∧ (startFrame0 st also s).staging = s.staging
      ∧ (startFrame0 st also s).noted = s.noted ∧ (startFrame0 st also s).requests = s.requests
      ∧ (startFrame0 st also s).inFlight = s.inFlight ∧ (startFrame0 st also s).monitors = s.monitors := by
  rw [startFrame0_frame]
  simp

@[simp] theorem enterStopped_fields (s : State) :
    (enterStopped s).pending = s.pending ∧ (enterStopped s).clock = s.clock ∧ (enterStopped s).ports = s.ports
      ∧ (enterStopped s).sessions = s.sessions ∧ (enterStopped s).channels = s.channels
      ∧ (enterStopped s).reference = s.reference ∧ (enterStopped s).activeTiming = s.activeTiming
      ∧ (enterStopped s).nextTiming = s.nextTiming ∧ (enterStopped s).activePlan = s.activePlan
      ∧ (enterStopped s).nextPlan = s.nextPlan ∧ (enterStopped s).staging = s.staging
      ∧ (enterStopped s).noted = s.noted ∧ (enterStopped s).requests = s.requests
      ∧ (enterStopped s).inFlight = s.inFlight ∧ (enterStopped s).results = s.results
      ∧ (enterStopped s).monitors = s.monitors ∧ (enterStopped s).events = s.events := by
  simp [enterStopped]

@[simp] theorem replacePlan_fields (s : State) :
    (replacePlan s).pending = s.pending ∧ (replacePlan s).clock = s.clock ∧ (replacePlan s).ports = s.ports
      ∧ (replacePlan s).sessions = s.sessions ∧ (replacePlan s).channels = s.channels
      ∧ (replacePlan s).reference = s.reference ∧ (replacePlan s).timebase = s.timebase
      ∧ (replacePlan s).nextTiming = s.nextTiming ∧ (replacePlan s).nextPlan = s.nextPlan
      ∧ (replacePlan s).staging = s.staging ∧ (replacePlan s).noted = s.noted ∧ (replacePlan s).requests = s.requests
      ∧ (replacePlan s).results = s.results := by
  rw [replacePlan_frame]
  simp

@[simp] theorem planChanged_fields (b : Bool) (s : State) :
    (planChanged b s).pending = s.pending ∧ (planChanged b s).clock = s.clock ∧ (planChanged b s).ports = s.ports
      ∧ (planChanged b s).sessions = s.sessions ∧ (planChanged b s).channels = s.channels
      ∧ (planChanged b s).reference = s.reference ∧ (planChanged b s).timebase = s.timebase
      ∧ (planChanged b s).activeTiming = s.activeTiming ∧ (planChanged b s).nextTiming = s.nextTiming
      ∧ (planChanged b s).activePlan = s.activePlan ∧ (planChanged b s).nextPlan = s.nextPlan
      ∧ (planChanged b s).staging = s.staging ∧ (planChanged b s).noted = s.noted
      ∧ (planChanged b s).inFlight = s.inFlight ∧ (planChanged b s).monitors = s.monitors
      ∧ (planChanged b s).events = s.events := by
  rw [planChanged_frame]
  simp

@[simp] theorem boundaryStage1_fields (o : SyncOutcome) (s : State) :
    (boundaryStage1 o s).pending = s.pending ∧ (boundaryStage1 o s).clock = s.clock
      ∧ (boundaryStage1 o s).ports = s.ports ∧ (boundaryStage1 o s).sessions = s.sessions
      ∧ (boundaryStage1 o s).channels = s.channels ∧ (boundaryStage1 o s).reference = s.reference
      ∧ (boundaryStage1 o s).activeTiming = s.activeTiming ∧ (boundaryStage1 o s).nextTiming = s.nextTiming
      ∧ (boundaryStage1 o s).activePlan = s.activePlan ∧ (boundaryStage1 o s).nextPlan = s.nextPlan
      ∧ (boundaryStage1 o s).staging = s.staging ∧ (boundaryStage1 o s).noted = s.noted
      ∧ (boundaryStage1 o s).requests = s.requests ∧ (boundaryStage1 o s).inFlight = s.inFlight
      ∧ (boundaryStage1 o s).results = s.results ∧ (boundaryStage1 o s).monitors = s.monitors
      ∧ (boundaryStage1 o s).events = s.events := by
  simp [boundaryStage1]

@[simp] theorem missPending_fields (f : Half) (s : State) :
    (missPending f s).pending = s.pending ∧ (missPending f s).clock = s.clock ∧ (missPending f s).ports = s.ports
      ∧ (missPending f s).sessions = s.sessions ∧ (missPending f s).channels = s.channels
      ∧ (missPending f s).reference = s.reference ∧ (missPending f s).timebase = s.timebase
      ∧ (missPending f s).activeTiming = s.activeTiming ∧ (missPending f s).nextTiming = s.nextTiming
      ∧ (missPending f s).nextPlan = s.nextPlan ∧ (missPending f s).staging = s.staging
      ∧ (missPending f s).noted = s.noted ∧ (missPending f s).requests = s.requests
      ∧ (missPending f s).inFlight = s.inFlight ∧ (missPending f s).monitors = s.monitors
      ∧ (missPending f s).events = s.events := by
  simp [missPending]

@[simp] theorem answerNotes_fields (s : State) :
    (answerNotes s).pending = s.pending ∧ (answerNotes s).clock = s.clock ∧ (answerNotes s).ports = s.ports
      ∧ (answerNotes s).sessions = s.sessions ∧ (answerNotes s).channels = s.channels
      ∧ (answerNotes s).reference = s.reference ∧ (answerNotes s).timebase = s.timebase
      ∧ (answerNotes s).activeTiming = s.activeTiming ∧ (answerNotes s).nextTiming = s.nextTiming
      ∧ (answerNotes s).activePlan = s.activePlan ∧ (answerNotes s).nextPlan = s.nextPlan
      ∧ (answerNotes s).staging = s.staging ∧ (answerNotes s).requests = s.requests
      ∧ (answerNotes s).inFlight = s.inFlight ∧ (answerNotes s).results = s.results
      ∧ (answerNotes s).monitors = s.monitors := by
  simp [answerNotes]

@[simp] theorem boundaryStage2_fields (f : Half) (s : State) :
    (boundaryStage2 f s).pending = s.pending ∧ (boundaryStage2 f s).clock = s.clock
      ∧ (boundaryStage2 f s).ports = s.ports ∧ (boundaryStage2 f s).sessions = s.sessions
      ∧ (boundaryStage2 f s).channels = s.channels ∧ (boundaryStage2 f s).reference = s.reference
      ∧ (boundaryStage2 f s).timebase = s.timebase ∧ (boundaryStage2 f s).nextTiming = s.nextTiming
      ∧ (boundaryStage2 f s).nextPlan = s.nextPlan ∧ (boundaryStage2 f s).staging = s.staging := by
  simp [boundaryStage2]

@[simp] theorem boundaryStages45_fields (x : TimebaseState) (o : SyncOutcome) (s : State) :
    (boundaryStages45 x o s).pending = s.pending ∧ (boundaryStages45 x o s).clock = s.clock
      ∧ (boundaryStages45 x o s).ports = s.ports ∧ (boundaryStages45 x o s).sessions = s.sessions
      ∧ (boundaryStages45 x o s).channels = s.channels ∧ (boundaryStages45 x o s).reference = s.reference
      ∧ (boundaryStages45 x o s).activeTiming = s.activeTiming ∧ (boundaryStages45 x o s).nextTiming = s.nextTiming
      ∧ (boundaryStages45 x o s).nextPlan = s.nextPlan ∧ (boundaryStages45 x o s).staging = s.staging
      ∧ (boundaryStages45 x o s).noted = s.noted ∧ (boundaryStages45 x o s).requests = s.requests
      ∧ (boundaryStages45 x o s).inFlight = s.inFlight ∧ (boundaryStages45 x o s).monitors = s.monitors := by
  simp [boundaryStages45]

@[simp] theorem takeBoundary_fields (o : SyncOutcome) (s : State) :
    (takeBoundary o s).pending = s.pending ∧ (takeBoundary o s).clock = s.clock ∧ (takeBoundary o s).ports = s.ports
      ∧ (takeBoundary o s).sessions = s.sessions ∧ (takeBoundary o s).channels = s.channels
      ∧ (takeBoundary o s).reference = s.reference ∧ (takeBoundary o s).nextTiming = s.nextTiming
      ∧ (takeBoundary o s).nextPlan = s.nextPlan ∧ (takeBoundary o s).staging = s.staging := by
  unfold takeBoundary
  dsimp only
  split <;> simp

@[simp] theorem timebaseAfterApply_fields (s : State) :
    (timebaseAfterApply s).pending = s.pending ∧ (timebaseAfterApply s).clock = s.clock
      ∧ (timebaseAfterApply s).ports = s.ports ∧ (timebaseAfterApply s).sessions = s.sessions
      ∧ (timebaseAfterApply s).channels = s.channels ∧ (timebaseAfterApply s).reference = s.reference
      ∧ (timebaseAfterApply s).activeTiming = s.activeTiming ∧ (timebaseAfterApply s).nextTiming = s.nextTiming
      ∧ (timebaseAfterApply s).nextPlan = s.nextPlan ∧ (timebaseAfterApply s).staging = s.staging
      ∧ (timebaseAfterApply s).noted = s.noted ∧ (timebaseAfterApply s).requests = s.requests
      ∧ (timebaseAfterApply s).inFlight = s.inFlight ∧ (timebaseAfterApply s).monitors = s.monitors := by
  unfold timebaseAfterApply huntingLimit
  split
  · simp
  · split
    · simp
    · split
      · split <;> simp
      · simp

@[simp] theorem immediateApply_fields (s : State) :
    (immediateApply s).pending = s.pending ∧ (immediateApply s).clock = s.clock ∧ (immediateApply s).ports = s.ports
      ∧ (immediateApply s).sessions = s.sessions ∧ (immediateApply s).channels = s.channels
      ∧ (immediateApply s).reference = s.reference ∧ (immediateApply s).nextTiming = s.nextTiming
      ∧ (immediateApply s).nextPlan = s.nextPlan ∧ (immediateApply s).staging = s.staging
      ∧ (immediateApply s).noted = s.noted := by
  simp [immediateApply]

@[simp] theorem installCopy_fields (p : Port) (c : PlanCopy) (s : State) :
    (installCopy p c s).pending = s.pending ∧ (installCopy p c s).clock = s.clock
      ∧ (installCopy p c s).ports = s.ports ∧ (installCopy p c s).sessions = s.sessions
      ∧ (installCopy p c s).channels = s.channels ∧ (installCopy p c s).reference = s.reference
      ∧ (installCopy p c s).timebase = s.timebase ∧ (installCopy p c s).activeTiming = s.activeTiming
      ∧ (installCopy p c s).activePlan = s.activePlan ∧ (installCopy p c s).noted = s.noted
      ∧ (installCopy p c s).requests = s.requests ∧ (installCopy p c s).results = s.results := by
  simp [installCopy]

@[simp] theorem unsubscribed_fields (p : Port) (ch : Channel) (s : State) :
    (unsubscribed p ch s).pending = s.pending ∧ (unsubscribed p ch s).clock = s.clock
      ∧ (unsubscribed p ch s).ports = s.ports ∧ (unsubscribed p ch s).sessions = s.sessions
      ∧ (unsubscribed p ch s).reference = s.reference ∧ (unsubscribed p ch s).timebase = s.timebase
      ∧ (unsubscribed p ch s).activeTiming = s.activeTiming ∧ (unsubscribed p ch s).nextTiming = s.nextTiming
      ∧ (unsubscribed p ch s).nextPlan = s.nextPlan ∧ (unsubscribed p ch s).staging = s.staging
      ∧ (unsubscribed p ch s).noted = s.noted ∧ (unsubscribed p ch s).monitors = s.monitors
      ∧ (unsubscribed p ch s).events = s.events := by
  unfold unsubscribed
  dsimp only
  split <;> simp

@[simp] theorem changeMode_fields (ch : Channel) (o : Port) (subs : List Port) (s : State) :
    (changeMode ch o subs s).pending = s.pending ∧ (changeMode ch o subs s).clock = s.clock
      ∧ (changeMode ch o subs s).ports = s.ports ∧ (changeMode ch o subs s).sessions = s.sessions
      ∧ (changeMode ch o subs s).reference = s.reference ∧ (changeMode ch o subs s).timebase = s.timebase
      ∧ (changeMode ch o subs s).activeTiming = s.activeTiming ∧ (changeMode ch o subs s).nextTiming = s.nextTiming
      ∧ (changeMode ch o subs s).nextPlan = s.nextPlan ∧ (changeMode ch o subs s).staging = s.staging
      ∧ (changeMode ch o subs s).noted = s.noted ∧ (changeMode ch o subs s).monitors = s.monitors := by
  simp [changeMode]

@[simp] theorem releaseAnalog_fields (ch : Channel) (o : Port) (subs : List Port) (s : State) :
    (releaseAnalog ch o subs s).pending = s.pending ∧ (releaseAnalog ch o subs s).clock = s.clock
      ∧ (releaseAnalog ch o subs s).ports = s.ports ∧ (releaseAnalog ch o subs s).sessions = s.sessions
      ∧ (releaseAnalog ch o subs s).reference = s.reference ∧ (releaseAnalog ch o subs s).timebase = s.timebase
      ∧ (releaseAnalog ch o subs s).activeTiming = s.activeTiming
      ∧ (releaseAnalog ch o subs s).nextTiming = s.nextTiming ∧ (releaseAnalog ch o subs s).nextPlan = s.nextPlan
      ∧ (releaseAnalog ch o subs s).staging = s.staging ∧ (releaseAnalog ch o subs s).noted = s.noted
      ∧ (releaseAnalog ch o subs s).monitors = s.monitors := by
  simp [releaseAnalog]

@[simp] theorem joinQueue_fields (p : Port) (e : RequestEntry) (s : State) :
    (joinQueue p e s).pending = s.pending ∧ (joinQueue p e s).clock = s.clock ∧ (joinQueue p e s).ports = s.ports
      ∧ (joinQueue p e s).sessions = s.sessions ∧ (joinQueue p e s).channels = s.channels
      ∧ (joinQueue p e s).reference = s.reference ∧ (joinQueue p e s).timebase = s.timebase
      ∧ (joinQueue p e s).activeTiming = s.activeTiming ∧ (joinQueue p e s).nextTiming = s.nextTiming
      ∧ (joinQueue p e s).nextPlan = s.nextPlan ∧ (joinQueue p e s).staging = s.staging
      ∧ (joinQueue p e s).noted = s.noted ∧ (joinQueue p e s).results = s.results
      ∧ (joinQueue p e s).monitors = s.monitors ∧ (joinQueue p e s).events = s.events := by
  simp [joinQueue]

@[simp] theorem cancelEntry_fields (p : Port) (tag : Byte) (s : State) :
    (cancelEntry p tag s).pending = s.pending ∧ (cancelEntry p tag s).clock = s.clock
      ∧ (cancelEntry p tag s).ports = s.ports ∧ (cancelEntry p tag s).sessions = s.sessions
      ∧ (cancelEntry p tag s).channels = s.channels ∧ (cancelEntry p tag s).reference = s.reference
      ∧ (cancelEntry p tag s).timebase = s.timebase ∧ (cancelEntry p tag s).activeTiming = s.activeTiming
      ∧ (cancelEntry p tag s).nextTiming = s.nextTiming ∧ (cancelEntry p tag s).nextPlan = s.nextPlan
      ∧ (cancelEntry p tag s).staging = s.staging ∧ (cancelEntry p tag s).noted = s.noted
      ∧ (cancelEntry p tag s).monitors = s.monitors ∧ (cancelEntry p tag s).events = s.events := by
  simp [cancelEntry]

end Sys2Proof.Machine

/-! The end of a session: what each part of the teardown leaves, table by table, and the whole of it (10 R177). -/

namespace Sys2Proof.Machine

/-! ### Tables visited entry by entry -/

/-- A table whose entries are visited once each, every visit writing its own entry from what stood there. -/
theorem look_foldl_visits {σ β : Type} {n : Nat} (entry : σ → Fin n → β) (visit : σ → Fin n → σ) (write : β → β)
    (h : ∀ s i j, entry (visit s i) j = if j = i then write (entry s j) else entry s j) (l : List (Fin n)) (s : σ)
    (hl : l.Nodup) (j : Fin n) :
    entry (l.foldl visit s) j = if j ∈ l then write (entry s j) else entry s j := by
  induction l generalizing s with
  | nil => simp
  | cons i l ih =>
    obtain ⟨hi, hl⟩ := List.nodup_cons.mp hl
    rw [List.foldl_cons, ih _ hl, h]
    by_cases hj : j = i
    · subst hj
      simp [hi]
    · simp [hj]

theorem nodup_allChannels : allChannels.Nodup := List.nodup_finRange 14
theorem nodup_allMonitors : allMonitors.Nodup := List.nodup_finRange 8
theorem mem_allChannels (ch : Channel) : ch ∈ allChannels := List.mem_finRange ch
theorem mem_allMonitors (m : MonitorId) : m ∈ allMonitors := List.mem_finRange m
theorem mem_allSlotIds (id : SlotId) : id ∈ allSlotIds := List.mem_finRange id

/-! ### Withdrawals -/

section Withdrawals

variable {s : State} {ch : Channel} {cause : LossCause} {owner : Port} {subs ps : List Port}
  {pick : RequestEntry → Bool} {flags : ResultFlags}

theorem look_removeEntries_requests (x : Port) :
    look (removeEntries flags pick ps s).requests x
      = if x ∈ ps then (look s.requests x).filter (fun e => !pick e) else look s.requests x :=
  look_withoutEntries pick ps s.requests x

/-- Each listed session is offered CANCELLED records of its own removed entries, and no other (06 R120, R122). -/
theorem look_removeEntries_results (h : ps.Nodup) (x : Port) :
    look (removeEntries .cancelledOnly pick ps s).results x
      = if x ∈ ps then afterCancelled s x ((look s.requests x).filter pick) else look s.results x := by
  have hport : ∀ p, ∀ o ∈ removalOffers s.reference.state.named .cancelledOnly pick s.requests p, o.2 = p := by
    intro p o ho
    obtain ⟨e, -, rfl⟩ := List.mem_map.mp ho
    rfl
  have hown : (ps.flatMap (removalOffers s.reference.state.named .cancelledOnly pick s.requests)).filter
        (fun o => o.2 == x)
      = if x ∈ ps then ((look s.requests x).filter pick).map fun e => (cancelledRecord s e, x) else [] := by
    induction ps with
    | nil => simp
    | cons p ps ih =>
      obtain ⟨hp, hn⟩ := List.nodup_cons.mp h
      rw [List.flatMap_cons, List.filter_append, ih hn]
      by_cases hx : x = p
      · subst hx
        have hall : (removalOffers s.reference.state.named .cancelledOnly pick s.requests x).filter (fun o => o.2 == x)
            = ((look s.requests x).filter pick).map fun e => (cancelledRecord s e, x) :=
          List.filter_eq_self.mpr fun o ho => by simp [hport x o ho]
        simp [hp, hall]
      · have hnone : (removalOffers s.reference.state.named .cancelledOnly pick s.requests p).filter
            (fun o => o.2 == x) = [] :=
          List.filter_eq_nil_iff.mpr fun o ho => by simp [hport p o ho, Ne.symm hx]
        simp [hx, hnone]
  have hqueue := look_offeredResults s.sessions
    (ps.flatMap (removalOffers s.reference.state.named .cancelledOnly pick s.requests)) s.results x
  rw [hown] at hqueue
  refine hqueue.trans ?_
  by_cases hx : x ∈ ps
  · cases hl : (look s.sessions x).lease <;> simp [hx, afterCancelled, hl, List.foldl_map]
  · cases hl : (look s.sessions x).lease <;> simp [hx]

/-- Each subscriber that is OPEN is offered CHANNEL_LOST once (02 R30). -/
theorem look_withdrawUsers_events (h : subs.Nodup) (x : Port) :
    look (withdrawUsers ch cause owner subs s).events x
      = if x ∈ subs ∧ isOpen s x = true then
          enqueueEvent { kind := .channelLost ch cause, frame := s.timebase.frameNumber } (look s.events x)
        else look s.events x := by
  have hown : (subs.map fun p => (EventKind.channelLost ch cause, p)).filter (fun o => o.2 == x)
      = if x ∈ subs then [(EventKind.channelLost ch cause, x)] else [] := by
    rw [List.filter_map]
    have hx : subs.filter ((fun o => o.2 == x) ∘ fun p => (EventKind.channelLost ch cause, p))
        = if x ∈ subs then [x] else [] := by
      rw [show ((fun o => o.2 == x) ∘ fun p => (EventKind.channelLost ch cause, p)) = fun p : Port => p == x from rfl,
        List.filter_beq]
      split
      · next hm => rw [List.count_eq_one_of_mem h hm, List.replicate_one]
      · next hm => rw [List.count_eq_zero_of_not_mem hm, List.replicate_zero]
    rw [hx]
    split <;> rfl
  have hqueue := look_offeredEvents s.sessions s.timebase.frameNumber
    (subs.map fun p => (EventKind.channelLost ch cause, p)) s.events x
  rw [hown] at hqueue
  refine hqueue.trans ?_
  unfold isOpen
  by_cases hx : x ∈ subs <;> by_cases ho : (look s.sessions x).lease.isSome = true <;> simp [hx, ho]

theorem look_withdrawUsers_requests (x : Port) :
    look (withdrawUsers ch cause owner subs s).requests x
      = if x ∈ withdrawnFrom cause owner subs then (look s.requests x).filter (fun e => e.channel != ch)
        else look s.requests x :=
  look_removeEntries_requests (flags := .cancelledOnly) x

theorem look_withdrawUsers_results (h : (withdrawnFrom cause owner subs).Nodup) (x : Port) :
    look (withdrawUsers ch cause owner subs s).results x
      = if x ∈ withdrawnFrom cause owner subs then
          afterCancelled s x ((look s.requests x).filter fun e => e.channel == ch)
        else look s.results x :=
  look_removeEntries_results h x

end Withdrawals

/-! ### The claim table's part -/

section Claims

variable {s : State} {p : Port} {ch : Channel} {l : List Channel}

/-- A channel record after its owner has ended (02 R47). -/
def ChannelRec.freedFrom (p : Port) (c : ChannelRec) : ChannelRec := if c.owner = some p then .free else c

theorem channelAfterEnd_eq (p : Port) (c : ChannelRec) : (c.freedFrom p).unsubscribed p = channelAfterEnd p c := by
  cases c with
  | free | reference => rfl
  | digital o d | settling o n due | analog o subs =>
    by_cases h : o = p <;> simp [ChannelRec.freedFrom, ChannelRec.owner, channelAfterEnd, ChannelRec.unsubscribed, h]

theorem freeOwned_frame (s : State) (ch : Channel) :
    freeOwned p s ch = { s with
      channels := (freeOwned p s ch).channels, latest := (freeOwned p s ch).latest
      requests := (freeOwned p s ch).requests, results := (freeOwned p s ch).results
      events := (freeOwned p s ch).events } := by
  unfold freeOwned
  split
  · split
    · rw [withdrawUsers_frame]
      rfl
    · rfl
  · split <;> rfl
  · split <;> rfl
  · rfl
  · rfl

/-- The subscribers that the session takes with it from a channel: those of a channel that it owns in ANALOG. -/
def lostSubscribers (p : Port) : ChannelRec → List Port
  | .analog o subs => if o = p then subs else []
  | .free | .digital _ _ | .settling _ _ _ | .reference => []

theorem mem_lostSubscribers {c : ChannelRec} {x : Port} :
    x ∈ lostSubscribers p c ↔ c.owner = some p ∧ x ∈ c.subscribers := by
  cases c with
  | analog o subs => by_cases h : o = p <;> simp [lostSubscribers, ChannelRec.owner, ChannelRec.subscribers, h]
  | free | digital | settling | reference => simp [lostSubscribers, ChannelRec.subscribers]

theorem look_freeOwned_channels (s : State) (ch x : Channel) :
    look (freeOwned p s ch).channels x
      = if x = ch then (look s.channels x).freedFrom p else look s.channels x := by
  unfold freeOwned
  by_cases hx : x = ch
  · subst hx
    rw [if_pos rfl]
    cases hc : look s.channels x with
    | free | reference => simp [hc, ChannelRec.freedFrom, ChannelRec.owner]
    | digital o d | settling o n due | analog o subs =>
      by_cases h : o = p <;> simp [hc, ChannelRec.freedFrom, ChannelRec.owner, h, setLatest]
  · cases hc : look s.channels ch with
    | free | reference => simp [hx]
    | digital o d | settling o n due | analog o subs =>
      by_cases h : o = p <;> simp [hx, h, setLatest, look_put_other]

theorem look_freeOwned_latest (s : State) (ch x : Channel) :
    look (freeOwned p s ch).latest x
      = if x = ch ∧ (look s.channels x).owner = some p then none else look s.latest x := by
  unfold freeOwned
  by_cases hx : x = ch
  · subst hx
    cases hc : look s.channels x with
    | free | reference => simp [ChannelRec.owner]
    | digital o d | settling o n due | analog o subs =>
      by_cases h : o = p <;> simp [h, ChannelRec.owner, setLatest, withdrawUsers, offerEvents, removeEntries, offerResults]
  · cases hc : look s.channels ch with
    | free | reference => simp [hx]
    | digital o d | settling o n due | analog o subs =>
      by_cases h : o = p <;>
        simp [hx, h, setLatest, look_put_other, withdrawUsers, offerEvents, removeEntries, offerResults]

/-- The queues that the end of the owner of one channel leaves are those of the withdrawal of its subscribers. -/
theorem freeOwned_queues (s : State) (ch : Channel) :
    ∃ u, u = withdrawUsers ch .ownerEnded p (lostSubscribers p (look s.channels ch)) s
      ∧ (freeOwned p s ch).requests = u.requests ∧ (freeOwned p s ch).results = u.results
      ∧ (freeOwned p s ch).events = u.events := by
  refine ⟨_, rfl, ?_⟩
  have hnone : withdrawUsers ch .ownerEnded p [] s = s := rfl
  unfold freeOwned
  cases hc : look s.channels ch with
  | free | reference => simp [lostSubscribers, hnone]
  | digital o d | settling o n due => by_cases h : o = p <;> simp [lostSubscribers, hnone, h, setLatest]
  | analog o subs =>
    by_cases h : o = p
    · subst h
      simp [lostSubscribers, setLatest]
    · simp [lostSubscribers, hnone, h]

theorem look_freeOwned_requests (s : State) (ch : Channel) (x : Port) :
    look (freeOwned p s ch).requests x
      = if x ∈ lostSubscribers p (look s.channels ch) then (look s.requests x).filter (fun e => e.channel != ch)
        else look s.requests x := by
  obtain ⟨u, rfl, hr, -, -⟩ := freeOwned_queues (p := p) s ch
  rw [hr, look_withdrawUsers_requests]
  rfl

theorem nodup_lostSubscribers {c : ChannelRec} (h : c.subscribers.Nodup) : (lostSubscribers p c).Nodup := by
  cases c with
  | analog o subs =>
    by_cases ho : o = p
    · rwa [lostSubscribers, if_pos ho]
    · rw [lostSubscribers, if_neg ho]
      exact List.nodup_nil
  | free | digital | settling | reference => exact List.nodup_nil

theorem look_freeOwned_results (h : (look s.channels ch).subscribers.Nodup) (x : Port) :
    look (freeOwned p s ch).results x
      = if x ∈ lostSubscribers p (look s.channels ch) then
          afterCancelled s x ((look s.requests x).filter fun e => e.channel == ch)
        else look s.results x := by
  obtain ⟨u, rfl, -, hr, -⟩ := freeOwned_queues (p := p) s ch
  rw [hr, look_withdrawUsers_results (by exact nodup_lostSubscribers h)]
  rfl

theorem look_freeOwned_events (h : (look s.channels ch).subscribers.Nodup) (x : Port) :
    look (freeOwned p s ch).events x
      = if x ∈ lostSubscribers p (look s.channels ch) ∧ isOpen s x = true then
          enqueueEvent { kind := .channelLost ch .ownerEnded, frame := s.timebase.frameNumber } (look s.events x)
        else look s.events x := by
  obtain ⟨u, rfl, -, -, hr⟩ := freeOwned_queues (p := p) s ch
  rw [hr, look_withdrawUsers_events (nodup_lostSubscribers h)]

theorem freeOwned_folded (l : List Channel) (s : State) :
    l.foldl (freeOwned p) s = { s with
      channels := (l.foldl (freeOwned p) s).channels, latest := (l.foldl (freeOwned p) s).latest
      requests := (l.foldl (freeOwned p) s).requests, results := (l.foldl (freeOwned p) s).results
      events := (l.foldl (freeOwned p) s).events } := by
  induction l generalizing s with
  | nil => rfl
  | cons ch l ih => rw [List.foldl_cons, ih, freeOwned_frame]

theorem look_freeOwned_folded_channels (hl : l.Nodup) (x : Channel) :
    look (l.foldl (freeOwned p) s).channels x
      = if x ∈ l then (look s.channels x).freedFrom p else look s.channels x :=
  look_foldl_visits (fun s x => look s.channels x) (freeOwned p) (ChannelRec.freedFrom p)
    (fun s i j => look_freeOwned_channels s i j) l s hl x

/-- Freeing one channel leaves the record of every other. -/
theorem look_freeOwned_channels_other {x : Channel} (h : x ≠ ch) :
    look (freeOwned p s ch).channels x = look s.channels x := by
  rw [look_freeOwned_channels, if_neg h]

theorem look_freeOwned_folded_latest (hl : l.Nodup) (x : Channel) :
    look (l.foldl (freeOwned p) s).latest x
      = if x ∈ l ∧ (look s.channels x).owner = some p then none else look s.latest x := by
  induction l generalizing s with
  | nil => simp
  | cons ch l ih =>
    obtain ⟨hch, hl⟩ := List.nodup_cons.mp hl
    rw [List.foldl_cons, ih hl, look_freeOwned_latest]
    by_cases hx : x = ch
    · subst hx
      simp [hch]
    · simp [hx, look_freeOwned_channels_other hx]

/-- The channels of a list that the session takes from one of their subscribers. -/
def lostOf (s : State) (p x : Port) (l : List Channel) : List Channel :=
  l.filter fun ch => (look s.channels ch).owner == some p && (look s.channels ch).subscribers.contains x

theorem mem_lostOf {x : Port} : ch ∈ lostOf s p x l ↔ ch ∈ l ∧ x ∈ lostSubscribers p (look s.channels ch) := by
  simp [lostOf, mem_lostSubscribers]

theorem lostOf_congr {t : State} (x : Port) (h : ∀ ch ∈ l, look t.channels ch = look s.channels ch) :
    lostOf t p x l = lostOf s p x l :=
  List.filter_congr fun ch hch => by rw [h ch hch]

theorem lostOf_cons (x : Port) :
    lostOf s p x (ch :: l)
      = if x ∈ lostSubscribers p (look s.channels ch) then ch :: lostOf s p x l else lostOf s p x l := by
  rw [lostOf, List.filter_cons]
  congr 1
  simp [mem_lostSubscribers]

/-- Freeing one channel takes no other from a subscriber. -/
theorem lostOf_freeOwned (x : Port) (h : ch ∉ l) : lostOf (freeOwned p s ch) p x l = lostOf s p x l :=
  lostOf_congr x fun _ hy => look_freeOwned_channels_other fun e => h (e ▸ hy)

theorem look_freeOwned_folded_requests (hl : l.Nodup) (x : Port) :
    look (l.foldl (freeOwned p) s).requests x
      = (look s.requests x).filter fun e => !(lostOf s p x l).contains e.channel := by
  induction l generalizing s with
  | nil => simp [lostOf]
  | cons ch l ih =>
    obtain ⟨hch, hl⟩ := List.nodup_cons.mp hl
    rw [List.foldl_cons, ih hl, look_freeOwned_requests, lostOf_freeOwned x hch, lostOf_cons]
    split
    · rw [List.filter_filter]
      congr 1
      funext e
      cases he : e.channel == ch <;> simp_all
    · rfl

theorem afterCancelled_append {t : State} {x : Port} {gone more : List RequestEntry}
    (hsession : t.sessions = s.sessions) (hreference : t.reference = s.reference)
    (hqueue : look t.results x = afterCancelled s x gone) :
    afterCancelled t x more = afterCancelled s x (gone ++ more) := by
  unfold afterCancelled at *
  rw [hsession, hqueue]
  cases (look s.sessions x).lease with
  | none => rfl
  | some lease =>
    have hrecord : cancelledRecord t = cancelledRecord s := by
      funext e
      simp [cancelledRecord, hreference]
    simp only [List.foldl_append, hrecord]

theorem afterCancelled_nil (x : Port) : afterCancelled s x [] = look s.results x := by
  unfold afterCancelled
  split <;> rfl

theorem nodup_subscribers_freeOwned (h : ∀ ch, (look s.channels ch).subscribers.Nodup) (y : Channel) :
    (look (freeOwned p s ch).channels y).subscribers.Nodup := by
  rw [look_freeOwned_channels]
  split
  · unfold ChannelRec.freedFrom
    split
    · exact List.nodup_nil
    · exact h y
  · exact h y

theorem look_freeOwned_folded_results (hl : l.Nodup) (hs : ∀ ch, (look s.channels ch).subscribers.Nodup) (x : Port) :
    look (l.foldl (freeOwned p) s).results x
      = afterCancelled s x ((lostOf s p x l).flatMap fun ch => (look s.requests x).filter fun e => e.channel == ch) := by
  induction l generalizing s with
  | nil => simp [lostOf, afterCancelled_nil]
  | cons ch l ih =>
    obtain ⟨hch, hl⟩ := List.nodup_cons.mp hl
    have hs' := nodup_subscribers_freeOwned (p := p) (ch := ch) hs
    have hlost : ∀ y ∈ lostOf s p x l, y ≠ ch := fun y hy e => hch (e ▸ (mem_lostOf.mp hy).1)
    have hentries : ((lostOf s p x l).flatMap fun y => (look (freeOwned p s ch).requests x).filter fun e => e.channel == y)
        = (lostOf s p x l).flatMap fun y => (look s.requests x).filter fun e => e.channel == y := by
      refine List.flatMap_congr fun y hy => ?_
      rw [look_freeOwned_requests]
      split
      · rw [List.filter_filter]
        refine List.filter_congr fun e _ => ?_
        by_cases he : e.channel = y
        · simp [he, hlost y hy]
        · simp [he]
      · rfl
    have hframe := freeOwned_frame (p := p) s ch
    have hsession : (freeOwned p s ch).sessions = s.sessions := by rw [hframe]
    have hreference : (freeOwned p s ch).reference = s.reference := by rw [hframe]
    rw [List.foldl_cons, ih hl hs', lostOf_freeOwned x hch, hentries, lostOf_cons]
    have hone := look_freeOwned_results (s := s) (p := p) (hs ch) x
    split
    · next hx =>
      rw [if_pos hx] at hone
      rw [List.flatMap_cons]
      exact afterCancelled_append hsession hreference hone
    · next hx =>
      rw [if_neg hx] at hone
      exact afterCancelled_append (gone := []) hsession hreference (hone.trans (afterCancelled_nil x).symm)

theorem look_freeOwned_folded_events (hl : l.Nodup) (hs : ∀ ch, (look s.channels ch).subscribers.Nodup) (x : Port) :
    look (l.foldl (freeOwned p) s).events x
      = if isOpen s x = true then
          (lostOf s p x l).foldl
            (fun qu ch => enqueueEvent { kind := .channelLost ch .ownerEnded, frame := s.timebase.frameNumber } qu)
            (look s.events x)
        else look s.events x := by
  induction l generalizing s with
  | nil => simp [lostOf]
  | cons ch l ih =>
    obtain ⟨hch, hl⟩ := List.nodup_cons.mp hl
    have hs' := nodup_subscribers_freeOwned (p := p) (ch := ch) hs
    have hframe := freeOwned_frame (p := p) s ch
    have hopen : isOpen (freeOwned p s ch) x = isOpen s x := by
      unfold isOpen
      rw [hframe]
    have hnumber : (freeOwned p s ch).timebase = s.timebase := by rw [hframe]
    rw [List.foldl_cons, ih hl hs', lostOf_freeOwned x hch, lostOf_cons, hopen, hnumber, look_freeOwned_events (hs ch)]
    by_cases ho : isOpen s x = true
    · by_cases hx : x ∈ lostSubscribers p (look s.channels ch) <;> simp [ho, hx]
    · simp [ho]

theorem leaveList_folded (l : List Channel) (s : State) :
    l.foldl (leaveList p) s = { s with channels := (l.foldl (leaveList p) s).channels } := by
  induction l generalizing s with
  | nil => rfl
  | cons ch l ih =>
    rw [List.foldl_cons, ih]
    rfl

/-- The claim table's part of a teardown: queues and latest values as the freeing of the session's channels leaves them, every
channel record as the end of the session makes it (02 R47). -/
theorem teardownClaims_frame (s : State) :
    teardownClaims p s = { allChannels.foldl (freeOwned p) s with channels := (teardownClaims p s).channels } :=
  leaveList_folded allChannels _

theorem look_teardownClaims_channels (s : State) (ch : Channel) :
    look (teardownClaims p s).channels ch = channelAfterEnd p (look s.channels ch) := by
  have hleave := look_foldl_visits (fun s x => look s.channels x) (leaveList p) (ChannelRec.unsubscribed p)
    (fun s i j => by
      by_cases h : j = i
      · subst h
        simp [leaveList]
      · simp [leaveList, h, look_put_other]) allChannels (allChannels.foldl (freeOwned p) s) nodup_allChannels ch
  refine hleave.trans ?_
  rw [if_pos (mem_allChannels ch), look_freeOwned_folded_channels nodup_allChannels, if_pos (mem_allChannels ch),
    channelAfterEnd_eq]

end Claims

/-! ### The parts of the other blocks -/

section Parts

variable {s : State} {p : Port}

/-- The State of the reference unit after the loss of the holder (03 R56). -/
def RefState.reverted (idle : Bool) : RefState → RefState
  | .steady .internal _ => .steady .internal false
  | .steady .external taken =>
    if taken then .steady .external true else if idle then .settling .internal 400 false else .steady .external true
  | .settling .external _ _ => .settling .internal 400 false
  | .settling .internal n due => .settling .internal n due

/-- The loss of the holder: the State reverted, and channel 11 free again where a switch to EXTERNAL is withdrawn (03 R56). -/
theorem loseHolder_eq (s : State) :
    loseHolder s = { s with
      reference := { state := s.reference.state.reverted s.inFlight.isNone, holder := none }
      channels := if s.reference.state = .steady .internal true then put s.channels 11 .free else s.channels } := by
  rcases hr : s.reference.state with ⟨_ | _, _ | _⟩ | ⟨_ | _, n, due⟩
  · rw [loseHolder_keeps hr rfl]
    rfl
  · rw [loseHolder_withdraws hr]
    rfl
  · cases hi : s.inFlight with
    | none =>
      rw [loseHolder_takes_idle hr hi]
      simp [RefState.reverted, hi]
    | some c =>
      rw [loseHolder_takes_converting hr (by simp [hi])]
      simp [RefState.reverted, hi]
  · rw [loseHolder_keeps hr rfl]
    simp [RefState.reverted]
  · rw [loseHolder_keeps hr rfl]
    rfl
  · rw [loseHolder_turns hr]
    rfl

/-- The reference record after the reference unit's part (03 R56, R61). -/
def Reference.afterEnd (r : Reference) (p : Port) (idle : Bool) : Reference :=
  if r.holder = some p then { state := r.state.reverted idle, holder := none } else r

/-- The reference unit's part frees channel 11 exactly where it withdraws a switch to EXTERNAL (03 R56, R61). -/
abbrev withdrawsAtEnd (r : Reference) (p : Port) : Prop := r.holder = some p ∧ r.state = .steady .internal true

theorem teardownReference_eq (s : State) :
    teardownReference p s = { s with
      reference := s.reference.afterEnd p s.inFlight.isNone
      channels := if withdrawsAtEnd s.reference p then put s.channels 11 .free else s.channels } := by
  unfold teardownReference Reference.afterEnd withdrawsAtEnd
  split
  · next hh => simp [loseHolder_eq, hh]
  · next hh => simp [hh]

theorem look_teardownReference_channels (s : State) (ch : Channel) :
    look (teardownReference p s).channels ch
      = if ch = 11 ∧ withdrawsAtEnd s.reference p then .free else look s.channels ch := by
  rw [teardownReference_eq]
  dsimp only
  by_cases hw : withdrawsAtEnd s.reference p
  · rw [if_pos hw]
    by_cases hch : ch = 11
    · rw [if_pos ⟨hch, hw⟩, hch, look_put_same]
    · rw [if_neg fun h => hch h.1, look_put_other _ hch]
  · rw [if_neg hw, if_neg fun h => hw h.2]

/-- The timebase record after the timebase's part (04 R81). -/
def Timebase.afterEnd (b : Timebase) (p : Port) : Timebase :=
  { b with holder := if b.holder = some p then none else b.holder }

theorem teardownTimebase_eq (s : State) :
    teardownTimebase p s = { s with timebase := s.timebase.afterEnd p } := by
  unfold teardownTimebase Timebase.afterEnd
  split <;> rfl

/-- The session owns the monitor (08 R156). -/
def ownsMonitor (s : State) (p : Port) (m : MonitorId) : Bool :=
  match look s.monitors m with
  | some r => r.owner == p
  | none => false

theorem freeIfOwned_eq (s : State) (m : MonitorId) :
    freeIfOwned p s m = if ownsMonitor s p m = true then freeMonitor m s else s := by
  unfold freeIfOwned ownsMonitor
  cases look s.monitors m with
  | none => rfl
  | some r => simp

theorem look_freeIfOwned_monitors (s : State) (m n : MonitorId) :
    look (freeIfOwned p s m).monitors n
      = if n = m then (look s.monitors n).filter fun r => r.owner != p else look s.monitors n := by
  rw [freeIfOwned_eq]
  by_cases hn : n = m
  · subst hn
    unfold ownsMonitor
    cases hr : look s.monitors n with
    | none => simp [hr]
    | some r => by_cases ho : r.owner = p <;> simp [hr, ho, freeMonitor, Option.filter]
  · split <;> simp [hn, freeMonitor, look_put_other]

/-- A conversion in flight that names no freed monitor stays as it was. -/
theorem filter_monitor_true (c : InFlight) : ({ c with monitor := c.monitor.filter fun _ => true } : InFlight) = c := by
  obtain ⟨_, _, _, _, _, _, _, _, _, _, _, _, m, _, _, _, _⟩ := c
  cases m <;> rfl

theorem freeIfOwned_folded (l : List MonitorId) (s : State) (hl : l.Nodup) :
    l.foldl (freeIfOwned p) s = { s with
      monitors := (l.foldl (freeIfOwned p) s).monitors
      inFlight := s.inFlight.map fun c => { c with
        monitor := c.monitor.filter fun m => !(l.contains m && ownsMonitor s p m) } } := by
  induction l generalizing s with
  | nil =>
    simp only [List.contains_nil, Bool.false_and, Bool.not_false, filter_monitor_true, Option.map_id', List.foldl_nil]
  | cons m l ih =>
    obtain ⟨hm, hl⟩ := List.nodup_cons.mp hl
    have hothers : ∀ k ∈ l, ownsMonitor (freeIfOwned p s m) p k = ownsMonitor s p k := by
      intro k hk
      unfold ownsMonitor
      rw [look_freeIfOwned_monitors, if_neg (ne_of_mem_of_not_mem hk hm)]
    have hcontains : ∀ k, (l.contains k && ownsMonitor (freeIfOwned p s m) p k) = (l.contains k && ownsMonitor s p k) := by
      intro k
      by_cases hk : k ∈ l
      · rw [hothers k hk]
      · simp [hk]
    rw [List.foldl_cons, ih _ hl]
    simp only [hcontains]
    rw [freeIfOwned_eq]
    by_cases ho : ownsMonitor s p m = true
    · rw [if_pos ho]
      unfold freeMonitor
      cases hi : s.inFlight with
      | none => rfl
      | some c =>
        have : ∀ k : Option MonitorId, (if k = some m then none else k).filter
              (fun k => !(l.contains k && ownsMonitor s p k))
            = k.filter fun k => !((m :: l).contains k && ownsMonitor s p k) := by
          intro k
          cases k with
          | none => rfl
          | some k =>
            by_cases hk : k = m
            · subst hk
              simp [Option.filter, ho]
            · simp [Option.filter, hk]
        simp only [Option.map_some, ← this c.monitor]
        split <;> rfl
    · rw [if_neg ho]
      congr 2
      funext c
      congr 2
      funext k
      by_cases hk : k = m
      · subst hk
        simp [ho]
      · simp [hk]

end Parts

/-! ### The whole teardown -/

section Whole

variable {s : State} {p : Port}

/-- The mark of the plan unit, where it is placed, adds to the Discard field (01 R11). -/
theorem discard_if (c : InFlight) (b : Bool) :
    (if b = true then { c with discard := true } else c) = { c with discard := c.discard || b } := by
  cases b <;> simp

/-- The conversion in flight with the marks that the plan unit, the converter and the monitor unit place on it in turn. -/
def InFlight.marked (s : State) (p : Port) (c : InFlight) : InFlight :=
  let voided := if voidsInFlight p s c = true then { c with discard := true } else c
  { InFlight.sessionEnded p voided with
    monitor := (InFlight.sessionEnded p voided).monitor.filter fun m => !(allMonitors.contains m && ownsMonitor s p m) }

theorem marked_eq (c : InFlight) : c.marked s p = flightAfterEnd s p c := by
  unfold InFlight.marked
  have howns : (fun m => !(allMonitors.contains m && ownsMonitor s p m))
      = fun m => match look s.monitors m with | some r => r.owner != p | none => true := by
    funext m
    have hm : allMonitors.contains m = true := List.contains_iff_mem.mpr (mem_allMonitors m)
    unfold ownsMonitor
    rw [hm, Bool.true_and]
    cases look s.monitors m <;> rfl
  dsimp only
  rw [howns, discard_if]
  obtain ⟨source, session, _, _, _, _, _, _, _, _, _, _, _, _, discard, _, _⟩ := c
  cases source with
  | slot id => rfl
  | request tag =>
    by_cases hp : session = p
    · subst hp
      simp [InFlight.sessionEnded, flightAfterEnd] <;> rfl
    · simp [voidsInFlight, InFlight.sessionEnded, flightAfterEnd, hp] <;> rfl

theorem look_teardownMonitors (s : State) (m : MonitorId) :
    look (teardownMonitors p s).monitors m = (look s.monitors m).filter fun r => r.owner != p := by
  have visited := look_foldl_visits (fun s m => look s.monitors m) (freeIfOwned p) (fun r => r.filter fun r => r.owner != p)
    (fun s i j => look_freeIfOwned_monitors s i j) allMonitors s nodup_allMonitors m
  rw [if_pos (mem_allMonitors m)] at visited
  exact visited

theorem teardownMonitors_congr {t : State} (h : t.monitors = s.monitors) :
    (teardownMonitors p t).monitors = (teardownMonitors p s).monitors :=
  table_ext fun m => by rw [look_teardownMonitors, look_teardownMonitors, h]

/-- The parts of a teardown from the plan unit on (05 R109, 06 R125, 01 R12, R13, 07 R143, 08 R156, 09 R165). -/
theorem teardownRest_eq (s : State) :
    teardownEvents p (teardownMonitors p (teardownResults p (teardownConverter p (teardownRequests p (teardownPlan p s)))))
      = { s with
        staging := put s.staging p []
        noted := put s.noted p false
        nextPlan := s.nextPlan.filter fun sl => sl.owner != p
        activePlan := s.activePlan.map fun a => if a.slot.owner = p then a.voided else a
        inFlight := s.inFlight.map (flightAfterEnd s p)
        monitors := (teardownMonitors p s).monitors
        requests := put s.requests p []
        results := put s.results p { look s.results p with records := [], overflow := 0 }
        events := put s.events p { records := [], lost := 0 } } := by
  obtain ⟨u, hu⟩ : ∃ u, u = teardownResults p (teardownConverter p (teardownRequests p (teardownPlan p s))) := ⟨_, rfl⟩
  have hmonitors : (teardownMonitors p u).monitors = (teardownMonitors p s).monitors :=
    teardownMonitors_congr (by rw [hu]; rfl)
  have howns : ownsMonitor u p = ownsMonitor s p := by rw [hu]; rfl
  have hflight : (u.inFlight.map fun c => { c with
        monitor := c.monitor.filter fun m => !(allMonitors.contains m && ownsMonitor s p m) })
      = s.inFlight.map (flightAfterEnd s p) := by
    have hmarks : u.inFlight = (s.inFlight.map fun c =>
        if voidsInFlight p s c = true then { c with discard := true } else c).map (InFlight.sessionEnded p) := by
      rw [hu]
      rfl
    rw [show flightAfterEnd s p = InFlight.marked s p from (funext marked_eq).symm, hmarks, Option.map_map,
      Option.map_map]
    rfl
  have hfold : teardownMonitors p u = { u with
      monitors := (teardownMonitors p s).monitors, inFlight := s.inFlight.map (flightAfterEnd s p) } := by
    rw [← hmonitors, ← hflight, ← howns]
    exact freeIfOwned_folded (p := p) allMonitors u nodup_allMonitors
  rw [← hu, hfold, hu]
  rfl

/-- The whole teardown: the tables that it writes entry by entry, named; the other fields, written out (10 R177). -/
theorem teardown_eq (s : State) :
    teardown p s = { s with
        channels := (teardown p s).channels
        reference := s.reference.afterEnd p s.inFlight.isNone
        latest := (allChannels.foldl (freeOwned p) s).latest
        timebase := s.timebase.afterEnd p
        staging := put s.staging p []
        noted := put s.noted p false
        nextPlan := s.nextPlan.filter fun sl => sl.owner != p
        activePlan := s.activePlan.map fun a => if a.slot.owner = p then a.voided else a
        inFlight := s.inFlight.map (flightAfterEnd s p)
        monitors := (teardownMonitors p s).monitors
        requests := put (allChannels.foldl (freeOwned p) s).requests p []
        results := put (allChannels.foldl (freeOwned p) s).results p
          { look (allChannels.foldl (freeOwned p) s).results p with records := [], overflow := 0 }
        events := put (allChannels.foldl (freeOwned p) s).events p { records := [], lost := 0 } } := by
  obtain ⟨u, hu⟩ : ∃ u, u = teardownTimebase p (teardownReference p (teardownClaims p s)) := ⟨_, rfl⟩
  have hclaims := freeOwned_folded (p := p) allChannels s
  have hframe : u = { allChannels.foldl (freeOwned p) s with
      channels := u.channels
      reference := s.reference.afterEnd p s.inFlight.isNone
      timebase := s.timebase.afterEnd p } := by
    rw [hu, teardownTimebase_eq, teardownReference_eq, teardownClaims_frame, hclaims]
  have hmonitors : (teardownMonitors p u).monitors = (teardownMonitors p s).monitors :=
    teardownMonitors_congr (by rw [hframe, hclaims])
  have hflight : flightAfterEnd u p = flightAfterEnd s p := by
    funext c
    rw [hframe, hclaims]
    rfl
  have hwhole : teardown p s = teardownEvents p (teardownMonitors p (teardownResults p (teardownConverter p
      (teardownRequests p (teardownPlan p u))))) := by rw [hu]; rfl
  rw [hwhole, teardownRest_eq, hmonitors, hflight]
  rw [hframe, hclaims]

@[simp] theorem teardown_fields (p : Port) (s : State) :
    (teardown p s).pending = s.pending ∧ (teardown p s).clock = s.clock ∧ (teardown p s).ports = s.ports
      ∧ (teardown p s).sessions = s.sessions ∧ (teardown p s).activeTiming = s.activeTiming
      ∧ (teardown p s).nextTiming = s.nextTiming
      ∧ (teardown p s).reference = s.reference.afterEnd p s.inFlight.isNone
      ∧ (teardown p s).timebase = s.timebase.afterEnd p
      ∧ (teardown p s).staging = put s.staging p [] ∧ (teardown p s).noted = put s.noted p false
      ∧ (teardown p s).nextPlan = s.nextPlan.filter (fun sl => sl.owner != p)
      ∧ (teardown p s).activePlan = s.activePlan.map (fun a => if a.slot.owner = p then a.voided else a)
      ∧ (teardown p s).inFlight = s.inFlight.map (flightAfterEnd s p) := by
  rw [teardown_eq]
  simp

theorem look_teardown_channels (s : State) (ch : Channel) :
    look (teardown p s).channels ch
      = if ch = 11 ∧ withdrawsAtEnd s.reference p then .free else channelAfterEnd p (look s.channels ch) := by
  have hchannels : (teardown p s).channels = (teardownReference p (teardownClaims p s)).channels := by
    have hwhole : teardown p s = teardownEvents p (teardownMonitors p (teardownResults p (teardownConverter p
        (teardownRequests p (teardownPlan p (teardownTimebase p (teardownReference p (teardownClaims p s)))))))) := rfl
    rw [hwhole, teardownRest_eq, teardownTimebase_eq]
  have hreference : (teardownClaims p s).reference = s.reference := by
    rw [teardownClaims_frame, freeOwned_folded]
  rw [hchannels, look_teardownReference_channels, look_teardownClaims_channels, hreference]

theorem look_teardown_latest (s : State) (ch : Channel) :
    look (teardown p s).latest ch = if (look s.channels ch).owner = some p then none else look s.latest ch := by
  have hlatest : (teardown p s).latest = (allChannels.foldl (freeOwned p) s).latest := by rw [teardown_eq]
  rw [hlatest, look_freeOwned_folded_latest nodup_allChannels]
  simp [mem_allChannels]

theorem look_teardown_monitors (s : State) (m : MonitorId) :
    look (teardown p s).monitors m = (look s.monitors m).filter fun r => r.owner != p := by
  have hmonitors : (teardown p s).monitors = (teardownMonitors p s).monitors := by rw [teardown_eq]
  rw [hmonitors, look_teardownMonitors]

theorem look_teardown_requests (s : State) (x : Port) :
    look (teardown p s).requests x
      = if x = p then [] else (look s.requests x).filter fun e => !(lostChannels s p x).contains e.channel := by
  have hrequests : (teardown p s).requests = put (allChannels.foldl (freeOwned p) s).requests p [] := by
    rw [teardown_eq]
  rw [hrequests, look_put, look_freeOwned_folded_requests nodup_allChannels]
  simp only [eq_comm (a := p)]
  rfl

/-- A session end leaves to the session a queue without records and with its next sequence number. -/
theorem look_teardown_results_same (s : State) (hown : ∀ ch, (look s.channels ch).owner = some p →
    p ∉ (look s.channels ch).subscribers) (hs : ∀ ch, (look s.channels ch).subscribers.Nodup) :
    look (teardown p s).results p = { look s.results p with records := [], overflow := 0 } := by
  have hlost : lostOf s p p allChannels = [] :=
    List.filter_eq_nil_iff.mpr fun ch _ => by simpa using hown ch
  have hresults : (teardown p s).results = put (allChannels.foldl (freeOwned p) s).results p
      { look (allChannels.foldl (freeOwned p) s).results p with records := [], overflow := 0 } := by
    rw [teardown_eq]
  rw [hresults, look_put_same, look_freeOwned_folded_results nodup_allChannels hs, hlost, List.flatMap_nil,
    afterCancelled_nil]

theorem look_teardown_results_other (s : State) (hs : ∀ ch, (look s.channels ch).subscribers.Nodup) {x : Port}
    (hx : x ≠ p) : look (teardown p s).results x = afterCancelled s x (lostEntries s p x) := by
  have hresults : (teardown p s).results = put (allChannels.foldl (freeOwned p) s).results p
      { look (allChannels.foldl (freeOwned p) s).results p with records := [], overflow := 0 } := by
    rw [teardown_eq]
  rw [hresults, look_put_other _ hx, look_freeOwned_folded_results nodup_allChannels hs]
  rfl

theorem look_teardown_events_same (s : State) : look (teardown p s).events p = { records := [], lost := 0 } := by
  rw [teardown_eq]
  exact look_put_same _ _ _

theorem look_teardown_events_other (s : State) (hs : ∀ ch, (look s.channels ch).subscribers.Nodup) {x : Port}
    (hx : x ≠ p) :
    look (teardown p s).events x = if isOpen s x = true then
        (lostChannels s p x).foldl
          (fun qu ch => enqueueEvent { kind := .channelLost ch .ownerEnded, frame := s.timebase.frameNumber } qu)
          (look s.events x)
      else look s.events x := by
  have hevents : (teardown p s).events
      = put (allChannels.foldl (freeOwned p) s).events p { records := [], lost := 0 } := by rw [teardown_eq]
  rw [hevents, look_put_other _ hx, look_freeOwned_folded_events nodup_allChannels hs]
  rfl

end Whole

end Sys2Proof.Machine

/-! The counts of the hub stay in their ranges, and the timebase is STOPPED exactly while the active plan is empty: what the
shared operations do to the outline of the active plan and to the timebase, and the laws step by step (04 4.5, R63, R64). -/

namespace Sys2Proof.Machine

/-! ### Ticks and session ends, field by field -/

theorem nodup_allPorts : allPorts.Nodup := by decide

theorem look_tickChannels (v : Vector ChannelRec 14) (ch : Channel) :
    look (tickChannels v) ch = (look v ch).ticked := by
  have visited := look_foldl_visits (look (α := ChannelRec) (n := 14)) (fun w ch => put w ch (look w ch).ticked)
    ChannelRec.ticked (fun v i j => by
      by_cases h : j = i
      · simp [h]
      · simp [h, look_put_other]) allChannels v nodup_allChannels ch
  rw [if_pos (mem_allChannels ch)] at visited
  exact visited

theorem look_tickSessions (v : Vector Session 4) (p : Port) : look (tickSessions v) p = (look v p).ticked := by
  have visited := look_foldl_visits (look (α := Session) (n := 4)) (fun w p => put w p (look w p).ticked)
    Session.ticked (fun v i j => by
      by_cases h : j = i
      · simp [h]
      · simp [h, look_put_other]) allPorts v nodup_allPorts p
  rw [if_pos (mem_allPorts p)] at visited
  exact visited

@[simp] theorem sampleSelects_fields (s : State) :
    (sampleSelects s).pending = s.pending ∧ (sampleSelects s).clock = s.clock
      ∧ (sampleSelects s).sessions = s.sessions ∧ (sampleSelects s).channels = s.channels
      ∧ (sampleSelects s).reference = s.reference ∧ (sampleSelects s).timebase = s.timebase
      ∧ (sampleSelects s).activeTiming = s.activeTiming ∧ (sampleSelects s).nextTiming = s.nextTiming
      ∧ (sampleSelects s).activePlan = s.activePlan ∧ (sampleSelects s).nextPlan = s.nextPlan
      ∧ (sampleSelects s).staging = s.staging ∧ (sampleSelects s).noted = s.noted
      ∧ (sampleSelects s).requests = s.requests ∧ (sampleSelects s).inFlight = s.inFlight
      ∧ (sampleSelects s).results = s.results ∧ (sampleSelects s).monitors = s.monitors
      ∧ (sampleSelects s).events = s.events := by
  rw [sampleSelects_frame]
  simp

@[simp] theorem tick_fields (s : State) :
    (tick s).pending = s.pending ∧ (tick s).clock = s.clock + 1 ∧ (tick s).sessions = tickSessions s.sessions
      ∧ (tick s).channels = tickChannels s.channels
      ∧ (tick s).reference = { s.reference with state := s.reference.state.ticked }
      ∧ (tick s).timebase = s.timebase.ticked s.activeTiming ∧ (tick s).activeTiming = s.activeTiming
      ∧ (tick s).nextTiming = s.nextTiming ∧ (tick s).activePlan = s.activePlan ∧ (tick s).nextPlan = s.nextPlan
      ∧ (tick s).staging = s.staging ∧ (tick s).noted = s.noted ∧ (tick s).requests = s.requests
      ∧ (tick s).results = s.results ∧ (tick s).monitors = s.monitors ∧ (tick s).events = s.events := by
  simp [tick, sampleSync, sampleNow]

@[simp] theorem endSession_fields (p : Port) (left : SessionState) (s : State) :
    (endSession p left s).pending = s.pending ∧ (endSession p left s).clock = s.clock
      ∧ (endSession p left s).ports = s.ports
      ∧ (endSession p left s).sessions = put s.sessions p { look s.sessions p with state := left }
      ∧ (endSession p left s).activeTiming = s.activeTiming ∧ (endSession p left s).nextTiming = s.nextTiming
      ∧ (endSession p left s).reference = s.reference.afterEnd p s.inFlight.isNone
      ∧ (endSession p left s).timebase = s.timebase.afterEnd p
      ∧ (endSession p left s).staging = put s.staging p [] ∧ (endSession p left s).noted = put s.noted p false
      ∧ (endSession p left s).nextPlan = s.nextPlan.filter (fun sl => sl.owner != p) := by
  simp [endSession]

theorem look_endSession_channels (p : Port) (left : SessionState) (s : State) (ch : Channel) :
    look (endSession p left s).channels ch
      = if ch = 11 ∧ withdrawsAtEnd s.reference p then .free else channelAfterEnd p (look s.channels ch) := by
  have hchannels : (endSession p left s).channels
      = (teardown p (setSession p { look s.sessions p with state := left } s)).channels := by simp [endSession]
  rw [hchannels, look_teardown_channels]
  rfl

@[simp] theorem opened_fields (p : Port) (a : OpenArgs) (s : State) :
    (opened p a s).pending = s.pending ∧ (opened p a s).clock = s.clock
      ∧ (opened p a s).ports = put s.ports p { look s.ports p with resetSeen := false }
      ∧ (opened p a s).sessions
        = put s.sessions p { state := .opened a.lease, previousRevoked := (look s.sessions p).state.isRevoked }
      ∧ (opened p a s).channels = s.channels ∧ (opened p a s).reference = s.reference
      ∧ (opened p a s).timebase = s.timebase ∧ (opened p a s).activeTiming = s.activeTiming
      ∧ (opened p a s).nextTiming = s.nextTiming ∧ (opened p a s).activePlan = s.activePlan
      ∧ (opened p a s).nextPlan = s.nextPlan ∧ (opened p a s).staging = put s.staging p []
      ∧ (opened p a s).noted = s.noted ∧ (opened p a s).requests = put s.requests p []
      ∧ (opened p a s).inFlight = s.inFlight
      ∧ (opened p a s).results = put s.results p { records := [], nextSequence := 0, overflow := 0 }
      ∧ (opened p a s).monitors = s.monitors ∧ (opened p a s).events = put s.events p { records := [], lost := 0 } := by
  simp [opened]

/-! ### The outline of the active plan -/

/-- The slots of the active plan with their Void marks: what decisions, arrivals and misses leave alone. -/
def outline (plan : List ActiveSlot) : List (Slot × Bool) := plan.map fun a => (a.slot, a.void)

theorem outline_eq_nil {plan : List ActiveSlot} : outline plan = [] ↔ plan = [] := List.map_eq_nil_iff

theorem outline_map (plan : List ActiveSlot) {f : ActiveSlot → ActiveSlot}
    (h : ∀ a, (f a).slot = a.slot ∧ (f a).void = a.void) : outline (plan.map f) = outline plan := by
  unfold outline
  rw [List.map_map]
  exact List.map_congr_left fun a _ => by simp [h a]

theorem outline_updateSlot (id : SlotId) (plan : List ActiveSlot) {f : ActiveSlot → ActiveSlot}
    (h : ∀ a, (f a).slot = a.slot ∧ (f a).void = a.void) : outline (updateSlot id f plan) = outline plan :=
  outline_map plan fun a => by
    split
    · exact h a
    · exact ⟨rfl, rfl⟩

section Outline

variable (s : State)

@[simp] theorem arbitrate_outline : outline (arbitrate s).activePlan = outline s.activePlan := by
  rcases arbitrate_cases s with h | ⟨-, -, ⟨a, -, -, h⟩ | ⟨p, e, rest, -, -, -, h⟩⟩
  · rw [h]
  · rw [h]
    exact outline_updateSlot _ _ fun _ => ⟨rfl, rfl⟩
  · rw [h]
    rfl

@[simp] theorem arbitrateIf_outline (b : Bool) : outline (arbitrateIf b s).activePlan = outline s.activePlan := by
  cases b
  · rfl
  · exact arbitrate_outline s

@[simp] theorem endSession_outline (p : Port) (left : SessionState) :
    outline (endSession p left s).activePlan
      = outline (s.activePlan.map fun a => if a.slot.owner = p then a.voided else a) := by
  simp [endSession]

@[simp] theorem unsubscribed_outline (p : Port) (ch : Channel) :
    outline (unsubscribed p ch s).activePlan = outline s.activePlan := by
  unfold unsubscribed
  dsimp only
  split <;> simp

@[simp] theorem changeMode_outline (ch : Channel) (o : Port) (subs : List Port) :
    outline (changeMode ch o subs s).activePlan = outline s.activePlan := by
  simp [changeMode]

@[simp] theorem releaseAnalog_outline (ch : Channel) (o : Port) (subs : List Port) :
    outline (releaseAnalog ch o subs s).activePlan = outline s.activePlan := by
  simp [releaseAnalog]

@[simp] theorem joinQueue_outline (p : Port) (e : RequestEntry) :
    outline (joinQueue p e s).activePlan = outline s.activePlan := by
  simp [joinQueue]

@[simp] theorem cancelEntry_outline (p : Port) (tag : Byte) :
    outline (cancelEntry p tag s).activePlan = outline s.activePlan := by
  simp [cancelEntry]

theorem arrivedRecord_keeps (due steady : Bool) (a : ActiveSlot) :
    (arrivedRecord due steady a).slot = a.slot ∧ (arrivedRecord due steady a).void = a.void := by
  unfold arrivedRecord
  split
  · exact ⟨rfl, rfl⟩
  · split <;> exact ⟨rfl, rfl⟩

@[simp] theorem phaseArrival_outline : outline (phaseArrival s).activePlan = outline s.activePlan := by
  unfold phaseArrival
  split
  · rfl
  · dsimp only
    split
    · rw [offerResults_frame]
      exact outline_updateSlot _ _ (arrivedRecord_keeps _ _)
    · exact outline_updateSlot _ _ (arrivedRecord_keeps _ _)

@[simp] theorem startFrame0_outline (st : TimebaseState) (also : List EventKind) :
    outline (startFrame0 st also s).activePlan = outline s.activePlan := by
  unfold startFrame0
  simp only [phaseArrival_outline, broadcasts_fields, broadcast_fields]
  exact outline_map _ fun _ => ⟨rfl, rfl⟩

theorem doneSlot_outline (c : InFlight) (plan : List ActiveSlot) : outline (doneSlot c plan) = outline plan := by
  unfold doneSlot
  split
  · split
    · exact outline_updateSlot _ _ fun a => by
        split <;> exact ⟨rfl, rfl⟩
    · rfl
  · rfl

@[simp] theorem endConversion_outline (c : InFlight) :
    outline (endConversion c s).activePlan = outline s.activePlan := by
  unfold endConversion
  dsimp only
  split <;> simp [doneSlot_outline]

theorem replacePlan_activePlan : (replacePlan s).activePlan = s.nextPlan.map ActiveSlot.fresh := rfl

theorem replacePlan_activeTiming : (replacePlan s).activeTiming = s.nextTiming := rfl

/-! ### Channels and the reference after their operations -/

@[simp] theorem unsubscribed_channels (p : Port) (ch : Channel) :
    (unsubscribed p ch s).channels = put s.channels ch ((look s.channels ch).unsubscribed p) := by
  unfold unsubscribed
  dsimp only
  split
  · next o subs hc =>
    rw [(removeEntries_fields _ _ _ _).2.2.2.2.1] at hc
    simp [hc, ChannelRec.unsubscribed]
  all_goals
    next hc =>
      rw [(removeEntries_fields _ _ _ _).2.2.2.2.1] at hc
      simp only [arbitrateIf_fields, removeEntries_fields]
      conv_lhs => rw [← put_look s.channels ch, hc]
      simp [hc, ChannelRec.unsubscribed]

@[simp] theorem changeMode_channels (ch : Channel) (o : Port) (subs : List Port) :
    (changeMode ch o subs s).channels = put s.channels ch (.digital o .initial) := by
  simp [changeMode]

@[simp] theorem releaseAnalog_channels (ch : Channel) (o : Port) (subs : List Port) :
    (releaseAnalog ch o subs s).channels = put s.channels ch .free := by
  simp [releaseAnalog]

@[simp] theorem setRefState_reference (x : RefState) :
    (setRefState x s).reference = { s.reference with state := x } := rfl

@[simp] theorem takeSwitch_changes (r : Ref) :
    (takeSwitch r s).reference
        = { s.reference with state := if s.inFlight.isNone then settleToward r.other else .steady r true }
      ∧ (takeSwitch r s).channels = match r with | .internal => put s.channels 11 .reference | .external => s.channels := by
  cases r <;> exact ⟨rfl, rfl⟩

@[simp] theorem withdrawSwitch_changes (r : Ref) :
    (withdrawSwitch r s).reference = { s.reference with state := .steady r false }
      ∧ (withdrawSwitch r s).channels = match r with | .internal => put s.channels 11 .free | .external => s.channels := by
  cases r <;> exact ⟨rfl, rfl⟩

@[simp] theorem settleEnded_changes (r : Ref) :
    (settleEnded r s).reference = { s.reference with state := .steady r false }
      ∧ (settleEnded r s).channels = match r with | .internal => put s.channels 11 .free | .external => s.channels := by
  cases r <;> exact ⟨rfl, rfl⟩

/-- The settle of a switch that has waited for the converter begins (03 R54). -/
def RefState.begun : RefState → RefState
  | .steady r true => settleToward r.other
  | .steady r false => .steady r false
  | .settling r n due => .settling r n due

@[simp] theorem beginSettle_reference :
    (beginSettle s).reference = { s.reference with state := s.reference.state.begun } := by
  rcases hr : s.reference with ⟨⟨r, taken⟩ | ⟨r, n, due⟩, h⟩
  · cases taken <;> simp [beginSettle, RefState.begun, hr]
  · simp [beginSettle, RefState.begun, hr]

@[simp] theorem endConversion_reference (c : InFlight) :
    (endConversion c s).reference = { s.reference with state := s.reference.state.begun } := by
  unfold endConversion
  cases c.discard <;> simp

/-! ### Boundaries and applies -/

@[simp] theorem boundaryStage2_plan (ending : Half) :
    (boundaryStage2 ending s).activePlan = s.nextPlan.map ActiveSlot.fresh
      ∧ (boundaryStage2 ending s).activeTiming = s.nextTiming := by
  simp [boundaryStage2, replacePlan_activePlan, replacePlan_activeTiming]

theorem outline_fresh (slots : List Slot) : outline (slots.map ActiveSlot.fresh) = slots.map fun x => (x, false) :=
  List.map_map

@[simp] theorem takeBoundary_outline (o : SyncOutcome) :
    outline (takeBoundary o s).activePlan = s.nextPlan.map fun x => (x, false) := by
  rw [← outline_fresh]
  unfold takeBoundary
  dsimp only
  split
  · simp [boundaryStage1]
  · simp only [arbitrate_outline]
    unfold boundaryStages45
    simp [boundaryStage1]

@[simp] theorem takeBoundary_activeTiming (o : SyncOutcome) : (takeBoundary o s).activeTiming = s.nextTiming := by
  unfold takeBoundary
  dsimp only
  split
  · simp [boundaryStage1]
  · simp only [arbitrate_fields]
    unfold boundaryStages45
    simp [boundaryStage1]

/-- The timebase after a frame boundary: STOPPED where the next plan holds no slot, else in a new frame (04 R67 to R72). -/
theorem takeBoundary_timebase (o : SyncOutcome) :
    (takeBoundary o s).timebase
      = if s.nextPlan = [] then
          { s.timebase with
            state := .stopped, frameNumber := 0, elapsed := 0, boundaryDue := false
            missCount := missAfter o s.timebase.missCount }
        else
          let n := newFrameState s.timebase.state s.nextTiming.mode o (missAfter o s.timebase.missCount)
          { s.timebase with
            state := n.1, frameNumber := s.timebase.frameNumber + 1, elapsed := 0, boundaryDue := false
            missCount := n.2.1 } := by
  unfold takeBoundary
  dsimp only
  by_cases hn : s.nextPlan = []
  · simp [hn, boundaryStage1, enterStopped]
  · simp [hn, boundaryStage1, boundaryStages45]

@[simp] theorem timebaseAfterApply_plan :
    outline (timebaseAfterApply s).activePlan = outline s.activePlan := by
  unfold timebaseAfterApply huntingLimit
  split
  · simp
  · split
    · simp
    · split
      · split <;> simp
      · rfl

@[simp] theorem immediateApply_outline :
    outline (immediateApply s).activePlan = s.nextPlan.map fun x => (x, false) := by
  unfold immediateApply
  simp [replacePlan_activePlan, outline_fresh]

@[simp] theorem immediateApply_activeTiming : (immediateApply s).activeTiming = s.nextTiming := by
  unfold immediateApply
  simp [replacePlan_activeTiming]

/-- The timebase record at the start of frame 0 (04 R77). -/
def Timebase.frame0 (st : TimebaseState) (b : Timebase) : Timebase :=
  { b with state := st, frameNumber := 0, elapsed := 0, boundaryDue := false, missCount := 0, spuriousCount := 0 }

@[simp] theorem huntingLimit_eq : huntingLimit s = startFrame0 .flywheel [.syncLost 0] s := rfl

@[simp] theorem startFrame0_timebase (st : TimebaseState) (also : List EventKind) :
    (startFrame0 st also s).timebase = s.timebase.frame0 st := by
  simp [startFrame0, Timebase.frame0]

/-- The timebase record after an immediate apply of a plan (04 R73, R76). -/
def Timebase.applied (empty : Bool) (t : Timing) (b : Timebase) : Timebase :=
  if empty then { b with state := .stopped, frameNumber := 0, elapsed := 0, boundaryDue := false }
  else
    match t.mode, b.state with
    | .free, _ => b.frame0 .freeRun
    | .external, .hunting n => if 4 * t.frameLength ≤ n then b.frame0 .flywheel else b
    | .external, _ => { b with state := .hunting 0 }

theorem immediateApply_timebase :
    (immediateApply s).timebase = s.timebase.applied s.nextPlan.isEmpty s.nextTiming := by
  obtain ⟨u, hu⟩ : ∃ u, u = planChanged (changesPlan s) (replacePlan s) := ⟨_, rfl⟩
  have hplan : u.activePlan.isEmpty = s.nextPlan.isEmpty := by
    rw [hu]
    simp [replacePlan_activePlan]
  have htiming : u.activeTiming = s.nextTiming := by
    rw [hu]
    simp [replacePlan_activeTiming]
  have htimebase : u.timebase = s.timebase := by
    rw [hu]
    simp
  have happly : (timebaseAfterApply u).timebase = u.timebase.applied u.activePlan.isEmpty u.activeTiming := by
    unfold timebaseAfterApply Timebase.applied
    split
    · rfl
    · cases u.activeTiming.mode with
      | free => simp
      | external =>
        cases hx : u.timebase.state with
        | hunting n =>
          dsimp only
          split
          · simp [huntingLimit]
          · rfl
        | stopped | freeRun | locked | flywheel => rfl
  unfold immediateApply
  rw [← hu, (arbitrate_fields _).2.2.2.2.2.2.1, happly, hplan, htiming, htimebase]

end Outline

/-! ### A successful COMMIT -/

section Edits

variable {s : State} {p : Port} {c d : PlanCopy}

theorem applyEdit_add {sl : Slot} :
    applyEdit s p c (.add sl) = .ok d
      ↔ holdsAnalog s p sl.channel = true ∧ d = { c with slots := c.slots ++ [{ sl with owner := p }] } := by
  unfold applyEdit
  dsimp only
  split
  · next h => simp [h, eq_comm]
  · next h => simp [h]

theorem applyEdit_move {id : SlotId} {phase : Nat} :
    applyEdit s p c (.move id phase) = .ok d
      ↔ ∃ sl, (c.slots.find? fun sl => sl.id == id) = some sl ∧ sl.owner = p
        ∧ d = { c with slots := c.slots.map fun x => if x.id = id then { x with phase := phase } else x } := by
  unfold applyEdit
  dsimp only
  split
  · next h => simp [h]
  · next sl h =>
    split
    · next ho => simp [h, ho, eq_comm]
    · next ho => simp [h, ho]

theorem applyEdit_drop {id : SlotId} :
    applyEdit s p c (.drop id) = .ok d
      ↔ ∃ sl, (c.slots.find? fun sl => sl.id == id) = some sl ∧ sl.owner = p
        ∧ d = { c with slots := c.slots.filter fun x => x.id != id } := by
  unfold applyEdit
  dsimp only
  split
  · next h => simp [h]
  · next sl h =>
    split
    · next ho => simp [h, ho, eq_comm]
    · next ho => simp [h, ho]

theorem applyEdit_timing_edit {t : Timing} :
    applyEdit s p c (.timing t) = .ok d ↔ s.timebase.holder = some p ∧ d = { c with timing := t } := by
  unfold applyEdit
  dsimp only
  split
  · next h => simp [h, eq_comm]
  · next h => simp [h]

end Edits

section Commit

variable (p : Port) (c : PlanCopy) (s : State)

@[simp] theorem installCopy_plan :
    (installCopy p c s).nextPlan = c.slots ∧ (installCopy p c s).nextTiming = c.timing
      ∧ (installCopy p c s).staging = put s.staging p [] := by
  simp [installCopy]

/-- A successful COMMIT is noted while a frame is running, and applied at once otherwise (05 R98, R99). -/
theorem commitCopy_state :
    (commitCopy p c s).1 = if running s = true then arbitrate (setNoted p true (installCopy p c s))
      else immediateApply (installCopy p c s) := by
  unfold commitCopy
  dsimp only
  split <;> rfl

end Commit

end Sys2Proof.Machine

/-! The step laws of the counts: the timebase STOPPED exactly while the active plan is empty, the timing records and the counts
in their ranges (04 4.5, R23, R49, R63, R64, R168). -/

namespace Sys2Proof.Machine

/-! ### No command stops -/

section Going

variable {s t : State}

theorem Effect.pending_clock (h : Effect s t) : t.pending = s.pending ∧ t.clock = s.clock := by
  cases h
  case committed p c hp hb hf =>
    rw [commitCopy_state]
    split <;> simp
  all_goals simp [resetBy, huntingLimit]

theorem Outside.pending_clock (h : Outside s t) : t.pending = s.pending ∧ t.clock = s.clock := by
  rw [h.blocks]
  exact ⟨rfl, rfl⟩

theorem exec_goes_on (c : Instr) (s : State) :
    ∃ t, exec c s = .next t ∧ t.pending = s.pending ∧ t.clock = s.clock := by
  obtain ⟨t, ht, a, b, hsa, hab, hbt⟩ := exec_carried c s
  obtain ⟨pa, ca⟩ := hsa.pending_clock
  obtain ⟨pb, cb⟩ := hab.pending_clock
  obtain ⟨pt, ct⟩ := hbt.pending_clock
  exact ⟨t, ht, by rw [pt, pb, pa], by rw [ct, cb, ca]⟩

theorem step_goes_on (s : State) : ∃ t, step s = .next t := by
  have went : ∀ c u, ∃ t, exec c u = .next t := fun c u => (exec_goes_on c u).imp fun _ h => h.1
  unfold step
  split
  · exact went _ _
  · unfold idleStep
    split
    · exact ⟨_, rfl⟩
    · split
      · exact went _ _
      · exact ⟨_, rfl⟩

end Going

/-- Settles O2: every command goes on by effects that leave the queue and the clock alone, and a step runs a command, samples
the selects, or takes a tick. -/
theorem noCommandStops : Obligations.NoCommandStops := ⟨exec_goes_on, step_goes_on⟩

/-! ### The timebase is STOPPED exactly while the active plan is empty -/

section Stopped

variable {s t : State}

theorem stoppedLawful_congr (hstate : t.timebase.state = .stopped ↔ s.timebase.state = .stopped)
    (hplan : outline t.activePlan = [] ↔ outline s.activePlan = []) (h : stoppedLawful s) : stoppedLawful t := by
  unfold stoppedLawful at *
  rw [hstate, h, ← outline_eq_nil, ← outline_eq_nil, hplan]

theorem outline_next_eq_nil {slots : List Slot} : slots.map (fun x => (x, false)) = [] ↔ slots = [] := List.map_eq_nil_iff

/-- A running or hunting timebase stays out of STOPPED where frame 0 starts. -/
theorem stoppedLawful_frame0 {u : State} {st : TimebaseState} (hs : s.timebase.state ≠ .stopped) (hst : st ≠ .stopped)
    (hstate : u.timebase.state = st) (hplan : outline u.activePlan = outline s.activePlan) (h : stoppedLawful s) :
    stoppedLawful u := by
  have hne : outline s.activePlan ≠ [] := fun e => hs (h.mpr (outline_eq_nil.mp e))
  unfold stoppedLawful
  rw [hstate, ← outline_eq_nil, hplan]
  exact ⟨fun e => absurd e hst, fun e => absurd e hne⟩

theorem newFrameState_runs (ended : TimebaseState) (mode : TimingMode) (o : SyncOutcome) (n : Nat) :
    (newFrameState ended mode o n).1.running = true := by
  unfold newFrameState
  split
  · rfl
  · split
    · rfl
    · split <;> rfl
    all_goals rfl

theorem stopped_not_running {x : TimebaseState} (h : x.running = true) : x ≠ .stopped := by
  rintro rfl
  cases h

theorem takeBoundary_stopped (o : SyncOutcome) (s : State) : stoppedLawful (takeBoundary o s) := by
  unfold stoppedLawful
  rw [takeBoundary_timebase, ← outline_eq_nil, takeBoundary_outline, outline_next_eq_nil]
  split
  · next hn => simp [hn]
  · next hn =>
    have hrun := stopped_not_running (newFrameState_runs s.timebase.state s.nextTiming.mode o (missAfter o s.timebase.missCount))
    simp [hn, hrun]

theorem applied_stopped (empty : Bool) (timing : Timing) (b : Timebase) :
    (b.applied empty timing).state = .stopped ↔ empty = true := by
  unfold Timebase.applied
  cases empty with
  | true => simp
  | false =>
    simp only [Bool.false_eq_true, if_false, iff_false]
    split
    · simp [Timebase.frame0]
    · next n hm hx => split <;> simp [Timebase.frame0, hx]
    · simp

theorem immediateApply_stopped (s : State) : stoppedLawful (immediateApply s) := by
  unfold stoppedLawful
  rw [immediateApply_timebase, ← outline_eq_nil, immediateApply_outline, outline_next_eq_nil, applied_stopped,
    List.isEmpty_iff]

theorem effect_keeps_stopped (h : Effect s t) (hs : stoppedLawful s) : stoppedLawful t := by
  cases h
  case reset cause => exact ⟨fun _ => rfl, fun _ => rfl⟩
  case ended p left hp hl => exact stoppedLawful_congr (by simp [Timebase.afterEnd]) (by simp [outline_eq_nil]) hs
  case boundary o hr hm => exact takeBoundary_stopped o s
  case synchronised n hx =>
    exact stoppedLawful_frame0 (st := .locked) (by simp [hx]) nofun (by simp [Timebase.frame0]) (by simp) hs
  case huntingEnded n hx =>
    exact stoppedLawful_frame0 (st := .flywheel) (by simp [hx]) nofun (by simp [huntingLimit, Timebase.frame0])
      (by simp [huntingLimit]) hs
  case committed p c hp hb hf =>
    rw [commitCopy_state]
    split
    · exact stoppedLawful_congr (by simp) (by simp) hs
    · exact immediateApply_stopped _
  all_goals exact stoppedLawful_congr (by simp) (by simp) hs

theorem ticked_stopped (timing : Timing) (b : Timebase) : (b.ticked timing).state = .stopped ↔ b.state = .stopped := by
  unfold Timebase.ticked Timebase.counted
  split
  · rfl
  · next hx => simp [hx]
  all_goals split <;> rfl

theorem step_keeps_stopped (h : stoppedLawful s) (hstep : step s = .next t) : stoppedLawful t :=
  step_keeps (fun _ _ _ h => h) (fun s t ht h => stoppedLawful_congr (by rw [ht.blocks]) (by rw [ht.blocks]) h)
    (fun _ _ => effect_keeps_stopped) (fun s h => stoppedLawful_congr (by simp) (by simp) h)
    (fun s _ h => stoppedLawful_congr (by simp [ticked_stopped]) (by simp) h) h hstep

end Stopped

/-! ### The timing records lie in their ranges -/

section Timings

variable {s t : State}

theorem timingsLawful_congr (hactive : t.activeTiming = s.activeTiming) (hnext : t.nextTiming = s.nextTiming)
    (hstaging : t.staging = s.staging) (h : timingsLawful s) : timingsLawful t := by
  unfold timingsLawful at *
  rwa [hactive, hnext, hstaging]

/-- A staging area given a new list of lawful edits leaves the staged timings lawful. -/
theorem timingsLawful_restaged {p : Port} {edits : List Edit} (hactive : t.activeTiming = s.activeTiming)
    (hnext : t.nextTiming = s.nextTiming) (hstaging : t.staging = put s.staging p edits)
    (hedits : ∀ r, Edit.timing r ∈ edits → r.lawful) (h : timingsLawful s) : timingsLawful t := by
  obtain ⟨ha, hn, hs⟩ := h
  refine ⟨hactive ▸ ha, hnext ▸ hn, fun q r hr => ?_⟩
  rw [hstaging, look_put] at hr
  split at hr
  · exact hedits r hr
  · exact hs q r hr

/-- The timing of a copy after one edit is the one before it, or the edit's own. -/
theorem applyEdit_timing {p : Port} {c d : PlanCopy} {e : Edit} (h : applyEdit s p c e = .ok d) :
    d.timing = c.timing ∨ Edit.timing d.timing = e := by
  cases e with
  | add sl => exact .inl (by rw [(applyEdit_add.mp h).2])
  | move id phase =>
    obtain ⟨sl, -, -, rfl⟩ := applyEdit_move.mp h
    exact .inl rfl
  | drop id =>
    obtain ⟨sl, -, -, rfl⟩ := applyEdit_drop.mp h
    exact .inl rfl
  | timing r => exact .inr (by rw [(applyEdit_timing_edit.mp h).2])

theorem applyEdits_timing {p : Port} {edits : List Edit} {i : Nat} {c d : PlanCopy}
    (h : applyEdits s p i edits c = .ok d) : d.timing = c.timing ∨ Edit.timing d.timing ∈ edits := by
  induction edits generalizing i c with
  | nil =>
    cases h
    exact .inl rfl
  | cons e es ih =>
    unfold applyEdits at h
    split at h
    · next b hb =>
      rcases ih h with hd | hd
      · rcases applyEdit_timing hb with he | he
        · exact .inl (hd.trans he)
        · exact .inr (by rw [hd, he]; exact List.mem_cons_self)
      · exact .inr (List.mem_cons_of_mem _ hd)
    · cases h

/-- The copy that a COMMIT builds, before its slots are put in phase order (05 R96). -/
theorem buildCopy_ok {p : Port} {c : PlanCopy} (h : buildCopy s p = .ok c) :
    ∃ d, applyEdits s p 0 (look s.staging p) { timing := s.nextTiming, slots := s.nextPlan } = .ok d
      ∧ c = { d with slots := inPhaseOrder d.slots } := by
  unfold buildCopy at h
  split at h
  · next d hd =>
    cases h
    exact ⟨d, hd, rfl⟩
  · cases h

theorem buildCopy_timing {p : Port} {c : PlanCopy} (h : buildCopy s p = .ok c) (hs : timingsLawful s) :
    c.timing.lawful := by
  obtain ⟨d, hd, rfl⟩ := buildCopy_ok h
  obtain ⟨-, hn, hstaged⟩ := hs
  rcases applyEdits_timing hd with he | he
  · exact he ▸ hn
  · exact hstaged p _ he

theorem timing_mem_withTiming {r t : Timing} {edits : List Edit} (h : Edit.timing r ∈ withTiming t edits) : r = t := by
  unfold withTiming at h
  obtain ⟨e, -, he⟩ := List.mem_map.mp h
  split at he
  · cases he
    rfl
  · next hn =>
    subst he
    exact absurd rfl hn

theorem effect_keeps_timings (h : Effect s t) (hs : timingsLawful s) : timingsLawful t := by
  obtain ⟨hactive, hnext, hstaged⟩ := id hs
  cases h
  case reset cause =>
    have hreset : Timing.reset.lawful := ⟨by decide, by decide, by decide⟩
    exact ⟨hreset, hreset, fun p r hr => by simp [resetBy, State.reset] at hr⟩
  case opened p a ha hp | ended p left hp hl | stagingCleared p =>
    exact timingsLawful_restaged (p := p) (edits := []) (by simp) (by simp) (by simp) (by simp) hs
  case staged p e hp hl he =>
    refine timingsLawful_restaged (p := p) (by simp) (by simp) rfl (fun r hr => ?_) hs
    rcases List.mem_append.mp hr with hr | hr
    · exact hstaged p r hr
    · rw [← List.mem_singleton.mp hr] at he
      exact he
  case retimed p r hp hr =>
    exact timingsLawful_restaged (p := p) (by simp) (by simp) rfl (fun r' hr' => timing_mem_withTiming hr' ▸ hr) hs
  case boundary o hr hm => exact ⟨by simpa using hnext, by simpa using hnext, by simpa using hstaged⟩
  case committed p c hp hb hf =>
    have hc := buildCopy_timing hb hs
    have hinstalled : timingsLawful (installCopy p c s) := by
      refine timingsLawful_restaged (s := { s with nextTiming := c.timing }) (p := p) (edits := []) (by simp) (by simp)
        (by simp) (by simp) ⟨hactive, hc, hstaged⟩
    rw [commitCopy_state]
    split
    · exact timingsLawful_congr (by simp) (by simp) (by simp) hinstalled
    · exact ⟨by simpa using hc, by simpa using hc, by simpa using hinstalled.2.2⟩
  all_goals exact timingsLawful_congr (by simp) (by simp) (by simp) hs

theorem step_keeps_timings (h : timingsLawful s) (hstep : step s = .next t) : timingsLawful t :=
  step_keeps (fun _ _ _ h => h)
    (fun s t ht h => timingsLawful_congr (by rw [ht.blocks]) (by rw [ht.blocks]) (by rw [ht.blocks]) h)
    (fun _ _ => effect_keeps_timings) (fun s h => timingsLawful_congr (by simp) (by simp) (by simp) h)
    (fun s _ h => timingsLawful_congr (by simp) (by simp) (by simp) h) h hstep

end Timings

/-! ### The counts of the timebase lie in their ranges -/

section Timebases

variable {s t : State} {b : Timebase} {timing : Timing}

/-- The counts of a timebase record lie in their ranges under a timing (04 R64). -/
def Timebase.lawful (timing : Timing) (b : Timebase) : Prop :=
  (b.state.running = true →
      b.elapsed < timing.frameEnd b.state ∧ (b.boundaryDue = true → b.elapsed + 1 = timing.frameEnd b.state))
    ∧ (b.state.running = false → b.elapsed = 0 ∧ b.frameNumber = 0 ∧ b.boundaryDue = false)
    ∧ (∀ n, b.state = .hunting n → n ≤ 4 * timing.frameLength)
    ∧ b.missCount ≤ 3 ∧ (b.state = .locked → b.missCount ≤ 2) ∧ b.spuriousCount ≤ 65535

theorem timebaseCountsLawful_iff (s : State) : timebaseCountsLawful s ↔ s.timebase.lawful s.activeTiming := Iff.rfl

/-- The Holder is no count. -/
theorem Timebase.lawful_holder {h : Option Port} (hb : b.lawful timing) : ({ b with holder := h } : Timebase).lawful timing :=
  hb

theorem frameEnd_pos (ht : timing.lawful) (x : TimebaseState) : 0 < timing.frameEnd x := by
  have := ht.1
  unfold Timing.frameEnd
  split <;> omega

/-- A frame that has just started has counted nothing. -/
theorem Timebase.lawful_fresh (ht : timing.lawful) (hrun : b.state.running = true) (helapsed : b.elapsed = 0)
    (hdue : b.boundaryDue = false) (hmiss : b.missCount ≤ 3) (hlocked : b.state = .locked → b.missCount ≤ 2)
    (hspurious : b.spuriousCount ≤ 65535) : b.lawful timing := by
  refine ⟨fun _ => ⟨helapsed ▸ frameEnd_pos ht _, by simp [hdue]⟩, by simp [hrun], ?_, hmiss, hlocked, hspurious⟩
  intro n hn
  simp [hn, TimebaseState.running] at hrun

theorem Timebase.lawful_frame0 {x : TimebaseState} (ht : timing.lawful) (hx : x.running = true) :
    (b.frame0 x).lawful timing :=
  Timebase.lawful_fresh ht hx rfl rfl (Nat.zero_le _) (fun _ => Nat.zero_le _) (Nat.zero_le _)

/-- A stopped timebase keeps its Miss Count and Spurious Count (04 R72, R76). -/
theorem Timebase.lawful_stopped {n : Nat} (hn : n ≤ 3) (hb : b.lawful timing) {timing' : Timing} :
    ({ b with state := .stopped, frameNumber := 0, elapsed := 0, boundaryDue := false, missCount := n } : Timebase).lawful
      timing' := by
  obtain ⟨-, -, -, -, -, hspurious⟩ := hb
  exact ⟨nofun, fun _ => ⟨rfl, rfl, rfl⟩, nofun, hn, nofun, hspurious⟩

/-- The Miss Count that the outcome of a frame leaves is at most 3 (04 R69 to R71). -/
theorem missAfter_le {o : SyncOutcome} (hb : b.lawful timing) (hm : o = .miss → b.state = .locked) :
    missAfter o b.missCount ≤ 3 := by
  obtain ⟨-, -, -, hmiss, hlocked, -⟩ := hb
  cases o with
  | accepted => exact Nat.zero_le 3
  | miss =>
    have := hlocked (hm rfl)
    exact Nat.succ_le_succ this
  | plain => exact hmiss

/-- The Miss Count of the new frame is at most 3, and at most 2 in LOCKED (04 R70, R71). -/
theorem newFrameState_misses (ended : TimebaseState) (mode : TimingMode) (o : SyncOutcome) {n : Nat} (hn : n ≤ 3) :
    (newFrameState ended mode o n).2.1 ≤ 3
      ∧ ((newFrameState ended mode o n).1 = .locked → (newFrameState ended mode o n).2.1 ≤ 2) := by
  unfold newFrameState
  split
  · simp
  · split
    · simp
    · split
      · exact ⟨hn, nofun⟩
      · next h => exact ⟨hn, fun _ => by dsimp only; omega⟩
    · simp
    · exact ⟨hn, nofun⟩
    · simp

theorem takeBoundary_counts (o : SyncOutcome) (hb : timebaseCountsLawful s) (ht : s.nextTiming.lawful)
    (hm : o = .miss → s.timebase.state = .locked) : timebaseCountsLawful (takeBoundary o s) := by
  rw [timebaseCountsLawful_iff, takeBoundary_timebase, takeBoundary_activeTiming]
  have hmiss := missAfter_le hb hm
  split
  · exact Timebase.lawful_stopped hmiss hb
  · obtain ⟨hle, hlocked⟩ := newFrameState_misses s.timebase.state s.nextTiming.mode o hmiss
    exact Timebase.lawful_fresh ht (newFrameState_runs _ _ _ _) rfl rfl hle hlocked hb.2.2.2.2.2

theorem Timebase.applied_lawful {empty : Bool} {timing' : Timing} (hb : b.lawful timing) (ht : timing'.lawful)
    (hrun : b.state.running = false) : (b.applied empty timing').lawful timing' := by
  obtain ⟨-, hidle, -, hmiss, -, hspurious⟩ := id hb
  unfold Timebase.applied
  split
  · exact Timebase.lawful_stopped hmiss hb
  · split
    · exact Timebase.lawful_frame0 ht rfl
    · next n _ hx =>
      split
      · exact Timebase.lawful_frame0 ht rfl
      · next hn =>
        refine ⟨by simp [hrun], fun _ => hidle hrun, fun k hk => ?_, hmiss, by simp [hx], hspurious⟩
        rw [hx] at hk
        cases hk
        exact Nat.le_of_not_le hn
    · refine ⟨nofun, fun _ => hidle hrun, fun k hk => ?_, hmiss, nofun, hspurious⟩
      cases hk
      exact Nat.zero_le _

theorem effect_keeps_timebaseCounts (h : Effect s t) (htimings : timingsLawful s) (hs : timebaseCountsLawful s) :
    timebaseCountsLawful t := by
  obtain ⟨hactive, hnext, -⟩ := id htimings
  rw [timebaseCountsLawful_iff] at hs ⊢
  cases h
  case reset cause => exact ⟨nofun, fun _ => ⟨rfl, rfl, rfl⟩, nofun, Nat.zero_le _, nofun, Nat.zero_le _⟩
  case ended p left hp hl =>
    rw [(endSession_fields p left s).2.2.2.2.2.2.2.1, (endSession_fields p left s).2.2.2.2.1]
    exact hs
  case timebaseClaimed | timebaseReleased => exact hs
  case spurious =>
    obtain ⟨hrun, hidle, hhunt, hmiss, hlocked, -⟩ := hs
    exact ⟨hrun, hidle, hhunt, hmiss, hlocked, Nat.min_le_left _ _⟩
  case boundary o hr hm => exact takeBoundary_counts o hs hnext hm
  case synchronised n hx | huntingEnded n hx => simpa using Timebase.lawful_frame0 hactive rfl
  case committed p c hp hb hf =>
    rw [commitCopy_state]
    split
    · simpa using hs
    · next hrun =>
      rw [immediateApply_timebase, immediateApply_activeTiming]
      simpa using Timebase.applied_lawful hs (buildCopy_timing hb htimings) (Bool.not_eq_true _ ▸ hrun)
  all_goals simpa using hs

/-- At a tick Elapsed rises within the frame, or stays at its last value with the boundary due (04 R64, R65). -/
theorem Timebase.counted_lawful (hb : b.lawful timing) (hrun : b.state.running = true) :
    (b.counted (timing.frameEnd b.state)).lawful timing := by
  obtain ⟨hframe, -, hhunt, hmiss, hlocked, hspurious⟩ := hb
  obtain ⟨hlt, hdue⟩ := hframe hrun
  unfold Timebase.counted
  split
  · next h =>
    refine ⟨fun _ => ⟨h, fun hd => ?_⟩, fun hr => ?_, hhunt, hmiss, hlocked, hspurious⟩
    · have := hdue hd
      omega
    · rw [hrun] at hr
      cases hr
  · next h =>
    refine ⟨fun _ => ⟨hlt, fun _ => Nat.le_antisymm hlt (Nat.le_of_not_lt h)⟩, fun hr => ?_, hhunt, hmiss, hlocked, hspurious⟩
    rw [hrun] at hr
    cases hr

theorem Timebase.ticked_lawful (hb : b.lawful timing) (hhunt : ∀ n, b.state = .hunting n → n < 4 * timing.frameLength) :
    (b.ticked timing).lawful timing := by
  unfold Timebase.ticked
  split
  · exact hb
  · next n hx =>
    obtain ⟨-, hidle, -, hmiss, -, hspurious⟩ := hb
    refine ⟨nofun, fun _ => hidle (by rw [hx]; rfl), fun k hk => ?_, hmiss, nofun, hspurious⟩
    cases hk
    exact hhunt n hx
  all_goals
    next hx =>
      rw [← hx]
      exact Timebase.counted_lawful hb (by rw [hx]; rfl)

/-- While no event is due, Hunt Elapsed is below its limit (04 R75). -/
theorem hunting_below_limit (hdue : dueEvents s = []) (n : Nat) (hx : s.timebase.state = .hunting n) :
    n < 4 * s.activeTiming.frameLength := by
  have hlimit : when (huntingLimitDue s) .huntingLimit = [] := by
    simp only [dueEvents, List.append_eq_nil_iff] at hdue
    exact hdue.1.1.1.1.2
  by_contra hn
  have : huntingLimitDue s = true := by simpa [huntingLimitDue, hx] using Nat.le_of_not_lt hn
  simp [this, when] at hlimit

theorem step_keeps_timebaseCounts (htimings : timingsLawful s) (h : timebaseCountsLawful s) (hstep : step s = .next t) :
    timebaseCountsLawful t := by
  refine (step_keeps (P := fun s => timingsLawful s ∧ timebaseCountsLawful s) (fun _ _ _ h => h) (fun s t ht h => ?_)
    (fun _ _ he h => ⟨effect_keeps_timings he h.1, effect_keeps_timebaseCounts he h.1 h.2⟩) (fun s h => ?_)
    (fun s hdue h => ?_) ⟨htimings, h⟩ hstep).2
  · rw [ht.blocks]
    exact h
  · exact ⟨timingsLawful_congr (by simp) (by simp) (by simp) h.1, by simpa [timebaseCountsLawful_iff] using h.2⟩
  · refine ⟨timingsLawful_congr (by simp) (by simp) (by simp) h.1, ?_⟩
    rw [timebaseCountsLawful_iff] at h ⊢
    simpa using Timebase.ticked_lawful h.2 (hunting_below_limit hdue)

end Timebases

/-! ### The counts of settles and leases lie in their ranges -/

section Settles

variable {s t : State}

/-- A settle count lies in its range, and its end is due only at its last value (02 R23, 03 R49). -/
def settleInRange (top n : Nat) (due : Bool) : Prop := 1 ≤ n ∧ n ≤ top ∧ (due = true → n = 1)

/-- The counts of a lease lie in their ranges (10 R168). -/
def Lease.inRange (l : Lease) : Prop :=
  5 ≤ l.leaseLength ∧ l.leaseLength ≤ 5000 ∧ l.leaseRemaining ≤ l.leaseLength ∧ l.leaseTick ≤ 1999
    ∧ (l.fallDue = true → l.leaseTick = 1999) ∧ 1 ≤ l.watermark ∧ l.watermark ≤ 32

/-- The settle count of a channel record lies in its range (02 R23). -/
def ChannelRec.inRange (c : ChannelRec) : Prop := ∀ o n due, c = .settling o n due → settleInRange 240 n due

/-- The settle count of the reference lies in its range (03 R49). -/
def RefState.inRange (x : RefState) : Prop := ∀ r n due, x = .settling r n due → settleInRange 400 n due

/-- The lease of a session record lies in its ranges (10 R168). -/
def Session.inRange (x : Session) : Prop := ∀ l, x.state = .opened l → l.inRange

theorem countsInRange_iff (s : State) :
    countsInRange s ↔ (∀ ch, (look s.channels ch).inRange) ∧ s.reference.state.inRange ∧ ∀ p, (look s.sessions p).inRange :=
  Iff.rfl

theorem ChannelRec.inRange_other {c : ChannelRec} (h : ∀ o n due, c ≠ .settling o n due) : c.inRange :=
  fun o n due hc => absurd hc (h o n due)

/-- A table of records in their ranges stays so where one record in its range is written. -/
theorem inRange_put {v : Vector ChannelRec 14} {i : Channel} {x : ChannelRec} (h : ∀ ch, (look v ch).inRange)
    (hx : x.inRange) (ch : Channel) : (look (put v i x) ch).inRange := by
  rw [look_put]
  split
  · exact hx
  · exact h ch

theorem sessions_inRange_put {v : Vector Session 4} {i : Port} {x : Session} (h : ∀ p, (look v p).inRange)
    (hx : x.inRange) (p : Port) : (look (put v i x) p).inRange := by
  rw [look_put]
  split
  · exact hx
  · exact h p

theorem channelAfterEnd_inRange {p : Port} {c : ChannelRec} (h : c.inRange) : (channelAfterEnd p c).inRange := by
  cases c with
  | settling o n due =>
    by_cases ho : o = p
    · rw [channelAfterEnd, if_pos ho]
      exact ChannelRec.inRange_other fun _ _ _ => nofun
    · rwa [channelAfterEnd, if_neg ho]
  | free | reference => exact ChannelRec.inRange_other fun _ _ _ => nofun
  | digital o d | analog o subs =>
    by_cases ho : o = p
    · rw [channelAfterEnd, if_pos ho]
      exact ChannelRec.inRange_other fun _ _ _ => nofun
    · rw [channelAfterEnd, if_neg ho]
      exact ChannelRec.inRange_other fun _ _ _ => nofun

theorem RefState.inRange_steady (r : Ref) (taken : Bool) : (RefState.steady r taken).inRange :=
  fun _ _ _ => nofun

theorem settleToward_inRange (r : Ref) : (settleToward r).inRange := by
  intro r' n due h
  cases h
  exact ⟨by decide, by decide, nofun⟩

theorem RefState.begun_inRange {x : RefState} (h : x.inRange) : x.begun.inRange := by
  unfold RefState.begun
  split
  · exact settleToward_inRange _
  · exact RefState.inRange_steady _ _
  · exact h

theorem RefState.reverted_inRange {x : RefState} (idle : Bool) (h : x.inRange) : (x.reverted idle).inRange := by
  unfold RefState.reverted
  split
  · exact RefState.inRange_steady _ _
  · split
    · exact RefState.inRange_steady _ _
    · split
      · exact settleToward_inRange .internal
      · exact RefState.inRange_steady _ _
  · exact settleToward_inRange .internal
  · exact h

theorem OpenArgs.lease_inRange {a : OpenArgs} (h : a.inRange) : a.lease.inRange :=
  ⟨h.1, h.2.1, Nat.le_refl _, Nat.zero_le _, nofun, h.2.2.1, h.2.2.2⟩

theorem Lease.renewed_inRange {l : Lease} (h : l.inRange) : l.renewed.inRange := by
  obtain ⟨hmin, hmax, -, -, -, hmark⟩ := h
  exact ⟨hmin, hmax, Nat.le_refl _, Nat.zero_le _, nofun, hmark⟩

theorem Lease.fallen_inRange {l : Lease} (h : l.inRange) : l.fallen.inRange := by
  obtain ⟨hmin, hmax, hleft, -, -, hmark⟩ := h
  exact ⟨hmin, hmax, (Nat.sub_le _ _).trans hleft, Nat.zero_le _, nofun, hmark⟩

theorem Session.inRange_ended {left : SessionState} {b : Bool} (h : ∀ l, left ≠ .opened l) :
    (Session.mk left b).inRange := fun l hl => absurd hl (h l)

theorem Session.inRange_opened {l : Lease} {b : Bool} (h : l.inRange) : (Session.mk (.opened l) b).inRange := by
  intro l' hl
  cases hl
  exact h

theorem claimWrites_inRange {p : Port} {x : ChannelRec} (h : claimWrites p x) : x.inRange := by
  rcases h with rfl | rfl | ⟨d, rfl⟩
  · intro o n due h
    cases h
    exact ⟨by decide, by decide, nofun⟩
  · exact ChannelRec.inRange_other fun _ _ _ => nofun
  · exact ChannelRec.inRange_other fun _ _ _ => nofun

theorem ChannelRec.unsubscribed_inRange {p : Port} {c : ChannelRec} (h : c.inRange) : (c.unsubscribed p).inRange := by
  cases c with
  | analog o subs => exact ChannelRec.inRange_other fun _ _ _ => nofun
  | free | digital | settling | reference => exact h

theorem effect_keeps_counts (h : Effect s t) (hs : countsInRange s) : countsInRange t := by
  rw [countsInRange_iff] at hs ⊢
  obtain ⟨hc, hr, hl⟩ := id hs
  cases h
  case reset cause =>
    exact ⟨fun ch => ChannelRec.inRange_other (by simp [resetBy, State.reset]), RefState.inRange_steady _ _,
      fun p => by simpa [resetBy, State.reset] using Session.inRange_ended (left := .closed) fun _ => nofun⟩
  case opened p a ha hp =>
    exact ⟨by simpa using hc, by simpa using hr, by
      simpa using sessions_inRange_put hl (Session.inRange_opened (OpenArgs.lease_inRange ha))⟩
  case ended p left hp hleft =>
    refine ⟨fun ch => ?_, ?_, by simpa using sessions_inRange_put hl (Session.inRange_ended hleft)⟩
    · rw [look_endSession_channels]
      split
      · exact ChannelRec.inRange_other fun _ _ _ => nofun
      · exact channelAfterEnd_inRange (hc ch)
    · rw [(endSession_fields p left s).2.2.2.2.2.2.1]
      unfold Reference.afterEnd
      split
      · exact RefState.reverted_inRange _ hr
      · exact hr
  case renewed p l hx =>
    exact ⟨hc, hr, sessions_inRange_put hl (Session.inRange_opened (Lease.renewed_inRange (hl p l hx)))⟩
  case fallen p l os hx =>
    exact ⟨hc, hr, sessions_inRange_put hl (Session.inRange_opened (Lease.fallen_inRange (hl p l hx)))⟩
  case claimed p ch x hp hcl hx => exact ⟨inRange_put hc (claimWrites_inRange hx), hr, hl⟩
  case subscribed | freed => exact ⟨inRange_put hc (ChannelRec.inRange_other fun _ _ _ => nofun), hr, hl⟩
  case unsubscribed p ch =>
    exact ⟨by simpa using inRange_put hc (ChannelRec.unsubscribed_inRange (hc ch)), by simpa using hr, by simpa using hl⟩
  case modeChanged | released =>
    refine ⟨?_, by simpa using hr, by simpa using hl⟩
    simp only [changeMode_channels, releaseAnalog_channels]
    exact inRange_put hc (ChannelRec.inRange_other fun _ _ _ => nofun)
  case analogSettled => exact ⟨inRange_put hc (ChannelRec.inRange_other fun _ _ _ => nofun), hr, hl⟩
  case referenceReleased =>
    rw [loseHolder_eq]
    refine ⟨?_, RefState.reverted_inRange _ hr, hl⟩
    dsimp only
    split
    · exact inRange_put hc (ChannelRec.inRange_other fun _ _ _ => nofun)
    · exact hc
  case switchTaken r hx hh hch =>
    refine ⟨?_, ?_, by simpa using hl⟩
    · cases r
      · exact inRange_put hc (ChannelRec.inRange_other fun _ _ _ => nofun)
      · exact hc
    · rw [(takeSwitch_changes s r).1]
      dsimp only
      split
      · exact settleToward_inRange _
      · exact RefState.inRange_steady _ _
  case switchWithdrawn r hx hh =>
    refine ⟨?_, RefState.inRange_steady _ _, by simpa using hl⟩
    cases r
    · exact inRange_put hc (ChannelRec.inRange_other fun _ _ _ => nofun)
    · exact hc
  case switchTurned r n due hx hh => exact ⟨hc, settleToward_inRange r, hl⟩
  case referenceSettled r n hx =>
    refine ⟨?_, by simpa using RefState.inRange_steady _ _, by simpa using hl⟩
    simp only [arbitrate_fields]
    cases r
    · exact inRange_put hc (ChannelRec.inRange_other fun _ _ _ => nofun)
    · exact hc
  case converted c hcv => exact ⟨by simpa using hc, by simpa using RefState.begun_inRange hr, by simpa using hl⟩
  case committed p c hp hb hf =>
    rw [commitCopy_state]
    split <;> simpa using hs
  all_goals simpa using hs

/-- A settle count after a tick stays in its range (02 R28, 03 R57). -/
theorem settleTick_inRange {top n : Nat} {due : Bool} (h : settleInRange top n due) :
    settleInRange top (settleTick n due).1 (settleTick n due).2 := by
  obtain ⟨hlow, htop, hdue⟩ := h
  unfold settleTick
  split
  · exact ⟨hlow, htop, fun _ => by dsimp only; omega⟩
  · exact ⟨by dsimp only; omega, by dsimp only; omega, fun hd => by have := hdue hd; omega⟩

theorem ticked_keeps_counts (hs : countsInRange s) : countsInRange (tick s) := by
  rw [countsInRange_iff] at hs ⊢
  obtain ⟨hc, hr, hl⟩ := hs
  rw [(tick_fields s).2.2.1, (tick_fields s).2.2.2.1, (tick_fields s).2.2.2.2.1]
  refine ⟨fun ch => ?_, ?_, fun p => ?_⟩
  · rw [look_tickChannels]
    have hch := hc ch
    cases hx : look s.channels ch with
    | settling o n due =>
      intro o' n' due' he
      cases he
      exact settleTick_inRange (hch o n due hx)
    | free | digital | analog | reference => exact ChannelRec.inRange_other fun _ _ _ => nofun
  · cases hx : s.reference.state with
    | settling r n due =>
      intro r' n' due' he
      cases he
      exact settleTick_inRange (hr r n due hx)
    | steady r taken => exact RefState.inRange_steady r taken
  · rw [look_tickSessions]
    unfold Session.ticked
    split
    · next l hx =>
      obtain ⟨hmin, hmax, hleft, htick, hdue, hmark⟩ := hl p l hx
      refine Session.inRange_opened ?_
      unfold Lease.ticked
      split
      · next hlt =>
        refine ⟨hmin, hmax, hleft, by dsimp only; omega, fun hd => ?_, hmark⟩
        have := hdue hd
        omega
      · exact ⟨hmin, hmax, hleft, htick, fun _ => by dsimp only; omega, hmark⟩
    · exact hl p
    · exact hl p

theorem step_keeps_counts (h : countsInRange s) (hstep : step s = .next t) : countsInRange t :=
  step_keeps (fun _ _ _ h => h)
    (fun s t ht h => by
      rw [ht.blocks]
      exact h)
    (fun _ _ => effect_keeps_counts) (fun s h => by simpa [countsInRange_iff] using h) (fun _ _ => ticked_keeps_counts) h
    hstep

end Settles

/-- Settles O58: each of the four laws is kept by every effect and by a tick at which no event is due. -/
theorem stepKeepsCountsLawful : Obligations.StepKeepsCountsLawful := fun _ _ hstopped htimings htimebase hcounts hstep =>
  ⟨step_keeps_stopped hstopped hstep, step_keeps_timings htimings hstep,
    step_keeps_timebaseCounts htimings htimebase hstep, step_keeps_counts hcounts hstep⟩

end Sys2Proof.Machine

/-! The step laws of the channels, the reference and the converter (01 R2, R3; 02 R24, R27; 03 R54, R55, R60; 05 R86). -/

namespace Sys2Proof.Machine

/-! ### The course of a conversion -/

/-- A conversion without the fields that monitors, plans and session ends mark. -/
def InFlight.course (c : InFlight) : InFlight := { c with monitor := none, recipients := [], slotStands := false }

section Courses

variable (s : State)

theorem freeMonitor_course (m : MonitorId) :
    (freeMonitor m s).inFlight.map InFlight.course = s.inFlight.map InFlight.course := by
  unfold freeMonitor
  rw [Option.map_map]
  congr 1
  funext c
  dsimp only [Function.comp]
  split <;> rfl

theorem detachLeaving_course (id : SlotId) :
    (detachLeaving s id).inFlight.map InFlight.course = s.inFlight.map InFlight.course := by
  unfold detachLeaving
  split
  · rfl
  · split
    · rfl
    · rw [(offerEvents_fields _ _).2.2.2.2.2.2.2.2.2.2.2.2.2.2.1]
      exact freeMonitor_course s _

@[simp] theorem detachLeavings_course (ids : List SlotId) :
    (ids.foldl detachLeaving s).inFlight.map InFlight.course = s.inFlight.map InFlight.course := by
  induction ids generalizing s with
  | nil => rfl
  | cons id ids ih => rw [List.foldl_cons, ih, detachLeaving_course]

@[simp] theorem replacePlan_course :
    (replacePlan s).inFlight.map InFlight.course = s.inFlight.map InFlight.course := by
  have hdetached : (((leavingSlots s).filter fun a => !a.void).foldl (fun x a => detachLeaving x a.slot.id) s).inFlight.map
      InFlight.course = s.inFlight.map InFlight.course := by
    rw [← detachLeavings_course s (((leavingSlots s).filter fun a => !a.void).map fun a => a.slot.id), List.foldl_map]
  rw [← hdetached]
  unfold replacePlan
  rw [Option.map_map]
  congr 1
  funext c
  dsimp only [Function.comp]
  split <;> rfl

/-- A boundary leaves the conversion in flight its course, before the arbiter decides. -/
@[simp] theorem boundaryStage2_course (ending : Half) :
    (boundaryStage2 ending s).inFlight.map InFlight.course = s.inFlight.map InFlight.course := by
  simp [boundaryStage2]

@[simp] theorem installCopy_course (p : Port) (c : PlanCopy) :
    (installCopy p c s).inFlight.map InFlight.course = s.inFlight.map InFlight.course := by
  simp [installCopy]

@[simp] theorem monitorFreed_course (m : MonitorId) :
    (freeMonitor m s).inFlight.map InFlight.course = s.inFlight.map InFlight.course := freeMonitor_course s m

theorem course_eq_none {s t : State} (h : t.inFlight.map InFlight.course = s.inFlight.map InFlight.course) :
    t.inFlight = none ↔ s.inFlight = none := by
  rw [← Option.map_eq_none_iff (f := InFlight.course), h, Option.map_eq_none_iff]

theorem course_eq_some {s t : State} {c : InFlight}
    (h : t.inFlight.map InFlight.course = s.inFlight.map InFlight.course) (hc : t.inFlight = some c) :
    ∃ d, s.inFlight = some d ∧ c.course = d.course := by
  rw [hc] at h
  obtain ⟨d, hd, he⟩ := Option.map_eq_some_iff.mp h.symm
  exact ⟨d, hd, he.symm⟩

end Courses

/-! ### A conversion ends one occupancy after its start -/

section Flights

variable {s t : State}

/-- A conversion that ends one occupancy after its start and has taken no more samples than N (01 R2). -/
def InFlight.lawful (c : InFlight) : Prop :=
  c.plannedEnd = c.startTick + occupancy c.resolution c.sampleTicks c.averaging ∧ c.samples.length ≤ c.averaging.count

theorem InFlight.lawful_course {c d : InFlight} (h : c.course = d.course) (hd : d.lawful) : c.lawful := by
  have hc : c.course.lawful := h ▸ hd
  exact hc

theorem inFlightLawful_congr (hcourse : t.inFlight.map InFlight.course = s.inFlight.map InFlight.course)
    (h : inFlightLawful s) : inFlightLawful t := by
  intro c hc
  obtain ⟨d, hd, he⟩ := course_eq_some hcourse hc
  exact InFlight.lawful_course he (h d hd)

theorem slotInFlight_lawful (s : State) (sl : Slot) : (slotInFlight s sl).lawful := by
  refine ⟨?_, Nat.zero_le _⟩
  show s.clock + sl.occupancy = s.clock + occupancy sl.resolution sl.sampleTicks .one
  rw [occupancy, Averaging.count, Nat.one_mul, Slot.occupancy]

theorem requestInFlight_lawful (s : State) (p : Port) (e : RequestEntry) : (requestInFlight s p e).lawful :=
  ⟨rfl, Nat.zero_le _⟩

theorem arbitrate_inFlightLawful (h : inFlightLawful s) : inFlightLawful (arbitrate s) := by
  rcases arbitrate_cases s with ht | ⟨-, -, ⟨a, -, -, ht⟩ | ⟨p, e, rest, -, -, -, ht⟩⟩
  · rwa [ht]
  · rw [ht]
    intro c hc
    cases hc
    exact slotInFlight_lawful s a.slot
  · rw [ht]
    intro c hc
    cases hc
    exact requestInFlight_lawful s p e

theorem arbitrateIf_inFlightLawful (b : Bool) (h : inFlightLawful s) : inFlightLawful (arbitrateIf b s) := by
  cases b
  · exact h
  · exact arbitrate_inFlightLawful h

end Flights

/-! ### What an effect does before the arbiter decides -/

section Shrinking

variable {s t u : State}

/-- Two conversions that differ in their marks alone, and the first is discarded where the second is. -/
def InFlight.marks (c d : InFlight) : Prop :=
  { c with discard := false }.course = { d with discard := false }.course ∧ (c.discard = false → d.discard = false)

theorem InFlight.marks_of_course {c d : InFlight} (h : c.course = d.course) : c.marks d := by
  refine ⟨?_, fun hc => ?_⟩
  · have := congrArg (fun x : InFlight => { x with discard := false }) h
    exact this
  · rw [← hc]
    exact (congrArg InFlight.discard h).symm

theorem flightAfterEnd_marks (s : State) (p : Port) (c : InFlight) : (flightAfterEnd s p c).marks c := by
  refine ⟨rfl, fun h => ?_⟩
  have hor : (c.discard || _) = false := h
  exact (Bool.or_eq_false_iff.mp hor).1

/-- `u` holds no conversion and no queued entry that `s` does not hold, in no other order, apart from marks on the conversion;
and it keeps the law of the converter. -/
structure Shrinks (s u : State) : Prop where
  flight : ∀ c, u.inFlight = some c → ∃ d, s.inFlight = some d ∧ c.marks d
  requests : ∀ p : Port, (look u.requests p).Sublist (look s.requests p)
  converter : converterLawful s → converterLawful u

theorem converterLawful_congr (hstate : t.reference.state = s.reference.state)
    (hflight : t.inFlight = none ↔ s.inFlight = none) (h : converterLawful s) : converterLawful t := by
  unfold converterLawful at *
  rwa [hstate, hflight, Ne, hflight]

theorem Shrinks.of_course (hcourse : u.inFlight.map InFlight.course = s.inFlight.map InFlight.course)
    (hrequests : ∀ p : Port, (look u.requests p).Sublist (look s.requests p))
    (hstate : u.reference.state = s.reference.state) : Shrinks s u where
  flight c hc := by
    obtain ⟨d, hd, he⟩ := course_eq_some hcourse hc
    exact ⟨d, hd, InFlight.marks_of_course he⟩
  requests := hrequests
  converter := converterLawful_congr hstate (course_eq_none hcourse)

/-- An effect that leaves the queues of requests, the conversion and the reference unit alone. -/
theorem Shrinks.of_same (hflight : u.inFlight = s.inFlight) (hrequests : u.requests = s.requests)
    (hstate : u.reference.state = s.reference.state) : Shrinks s u :=
  .of_course (by rw [hflight]) (fun p => by rw [hrequests]) hstate

theorem Shrinks.of_reference (hflight : u.inFlight = s.inFlight) (hrequests : u.requests = s.requests)
    (h : converterLawful s → converterLawful u) : Shrinks s u where
  flight c hc := ⟨c, hflight ▸ hc, InFlight.marks_of_course rfl⟩
  requests p := by rw [hrequests]
  converter := h

theorem removeEntries_shorter (flags : ResultFlags) (pick : RequestEntry → Bool) (ps : List Port) (s : State) (p : Port) :
    (look (removeEntries flags pick ps s).requests p).Sublist (look s.requests p) := by
  rw [look_removeEntries_requests]
  split
  · exact List.filter_sublist
  · exact List.Sublist.refl _

theorem withdrawUsers_shorter (ch : Channel) (cause : LossCause) (o : Port) (subs : List Port) (s : State) (p : Port) :
    (look (withdrawUsers ch cause o subs s).requests p).Sublist (look s.requests p) :=
  removeEntries_shorter .cancelledOnly _ _ s p

theorem planChanged_shorter (changed : Bool) (s : State) (p : Port) :
    (look (planChanged changed s).requests p).Sublist (look s.requests p) := by
  unfold planChanged recheck
  split
  · exact removeEntries_shorter _ _ _ _ p
  · exact List.Sublist.refl _

theorem boundaryStage2_shorter (ending : Half) (s : State) (p : Port) :
    (look (boundaryStage2 ending s).requests p).Sublist (look s.requests p) := by
  have hqueues : (answerNotes (replacePlan (missPending ending s))).requests = s.requests := by simp
  unfold boundaryStage2
  rw [← hqueues]
  exact planChanged_shorter _ _ p

theorem teardown_shorter (p : Port) (s : State) (x : Port) :
    (look (teardown p s).requests x).Sublist (look s.requests x) := by
  rw [look_teardown_requests]
  split
  · exact List.nil_sublist _
  · exact List.filter_sublist

/-- A converter that is idle keeps its law where the settle of a waiting switch begins (03 R54). -/
theorem converterLawful_begun {x : RefState} (hflight : t.inFlight = none) (hstate : t.reference.state = x.begun) : converterLawful t := by
  refine ⟨fun _ _ _ _ => hflight, fun r hr => ?_⟩
  rw [hstate] at hr
  unfold RefState.begun at hr
  split at hr
  · cases hr
  · cases hr
  · cases hr

theorem converterLawful_reverted (hflight : t.inFlight = none ↔ s.inFlight = none)
    (hstate : t.reference.state = s.reference.state.reverted s.inFlight.isNone) (h : converterLawful s) :
    converterLawful t := by
  obtain ⟨hsettling, hwaiting⟩ := h
  unfold converterLawful
  rw [hflight, hstate, Ne, hflight]
  cases hx : s.reference.state with
  | settling r n due => cases r <;> exact ⟨fun _ _ _ _ => hsettling _ n due hx, nofun⟩
  | steady r taken =>
    cases r with
    | internal => exact ⟨nofun, nofun⟩
    | external =>
      cases taken with
      | true => exact ⟨nofun, fun _ _ => hwaiting _ hx⟩
      | false =>
        cases hi : s.inFlight with
        | none => exact ⟨fun _ _ _ _ => rfl, nofun⟩
        | some c => exact ⟨nofun, fun _ _ => nofun⟩

theorem teardown_shrinks (p : Port) (left : SessionState) (s : State) :
    Shrinks s (teardown p (setSession p { look s.sessions p with state := left } s)) where
  flight c hc := by
    simp only [teardown_fields, setSession_inFlight, Option.map_eq_some_iff] at hc
    obtain ⟨d, hd, rfl⟩ := hc
    exact ⟨d, hd, flightAfterEnd_marks _ p d⟩
  requests := teardown_shorter p _
  converter h := by
    have hnone : (teardown p (setSession p { look s.sessions p with state := left } s)).inFlight = none
        ↔ s.inFlight = none := by simp
    by_cases hh : s.reference.holder = some p
    · exact converterLawful_reverted hnone (by simp [Reference.afterEnd, hh]) h
    · exact converterLawful_congr (by simp [Reference.afterEnd, hh]) hnone h

/-- Every effect takes requests and conversions away, apart from a SUBMIT, and then at most lets the arbiter decide. -/
theorem effect_shrinks (h : Effect s t) :
    (∃ b u, t = arbitrateIf b u ∧ Shrinks s u)
      ∨ ∃ p e, isOpen s p = true ∧ (look s.requests p).length < 8 ∧ tagInUse s p e.tag = false ∧ t = joinQueue p e s := by
  have undecided (hu : Shrinks s t) : ∃ b u, t = arbitrateIf b u ∧ Shrinks s u := ⟨false, t, rfl, hu⟩
  have decided {u : State} (ht : t = arbitrate u) (hu : Shrinks s u) : ∃ b u, t = arbitrateIf b u ∧ Shrinks s u :=
    ⟨true, u, ht, hu⟩
  cases h
  case joined p e hp hl ht => exact .inr ⟨p, e, hp, hl, ht, rfl⟩
  all_goals refine .inl ?_
  case reset cause =>
    exact undecided ⟨nofun, fun p => by simp [resetBy, State.reset], fun _ => ⟨nofun, nofun⟩⟩
  case opened p a ha hp =>
    refine undecided (.of_course (by simp) (fun x => ?_) (by simp))
    rw [(opened_fields p a s).2.2.2.2.2.2.2.2.2.2.2.2.2.1, look_put]
    split
    · exact List.nil_sublist _
    · exact List.Sublist.refl _
  case ended p left hp hl => exact ⟨_, _, rfl, teardown_shrinks p left s⟩
  case unsubscribed p ch =>
    refine ⟨_, _, rfl, ?_⟩
    split
    all_goals exact .of_course (by simp) (removeEntries_shorter .cancelledOnly _ _ s) (by simp)
  case modeChanged p ch subs hp hc hu =>
    exact ⟨_, _, rfl, .of_course (by simp) (withdrawUsers_shorter _ _ _ _ s) (by simp)⟩
  case released p ch subs hc hu =>
    exact ⟨_, _, rfl, .of_course (by simp) (withdrawUsers_shorter _ _ _ _ s) (by simp)⟩
  case cancelled p tag => exact ⟨_, _, rfl, .of_course (by simp) (removeEntries_shorter _ _ _ s) (by simp)⟩
  case referenceReleased =>
    exact undecided (.of_reference (by simp) (by simp) (converterLawful_reverted (by simp) (by simp [loseHolder_eq])))
  case switchTaken r hx hh hc =>
    refine undecided (.of_reference (by simp) (by simp) fun _ => ?_)
    have hstate := congrArg Reference.state (takeSwitch_changes s r).1
    have hflight : (takeSwitch r s).inFlight = s.inFlight := by simp
    unfold converterLawful
    rw [hstate, hflight]
    cases hi : s.inFlight with
    | none => exact ⟨fun _ _ _ _ => rfl, nofun⟩
    | some c => exact ⟨nofun, fun _ _ => nofun⟩
  case switchWithdrawn r hx hh =>
    refine undecided (.of_reference (by simp) (by simp) fun _ => ?_)
    unfold converterLawful
    rw [congrArg Reference.state (withdrawSwitch_changes s r).1]
    exact ⟨nofun, nofun⟩
  case switchTurned r n due hx hh =>
    exact undecided (.of_reference rfl rfl fun h => ⟨fun _ _ _ _ => h.1 _ n due hx, nofun⟩)
  case referenceSettled r n hx =>
    refine decided rfl (.of_reference (by simp) (by simp) fun _ => ?_)
    unfold converterLawful
    rw [congrArg Reference.state (settleEnded_changes s r).1]
    exact ⟨nofun, nofun⟩
  case boundary o hr hm =>
    unfold takeBoundary
    dsimp only
    split
    · refine ⟨false, _, rfl, .of_course (by simp [boundaryStage1]) (fun p => ?_) (by simp [boundaryStage1])⟩
      simp only [enterStopped_fields]
      exact boundaryStage2_shorter _ (boundaryStage1 o s) p
    · refine ⟨true, _, rfl, .of_course (by simp [boundaryStage1]) (fun p => ?_) (by simp [boundaryStage1])⟩
      simp only [boundaryStages45_fields]
      exact boundaryStage2_shorter _ (boundaryStage1 o s) p
  case synchronised | huntingEnded => exact decided rfl (.of_same (by simp) (by simp) (by simp))
  case phaseArrived => exact ⟨_, _, rfl, .of_same (by simp) (by simp) (by simp)⟩
  case committed p c hp hb hf =>
    rw [commitCopy_state]
    split
    · exact ⟨true, _, rfl, .of_course (by simp) (fun p => by simp) (by simp)⟩
    · refine ⟨true, _, rfl, .of_course (by simp) (fun x => ?_) (by simp)⟩
      have hqueues : (replacePlan (installCopy p c s)).requests = s.requests := by simp
      simp only [timebaseAfterApply_fields]
      rw [← hqueues]
      exact planChanged_shorter _ _ _
  case converted c hc =>
    have hflight : (endConversion c s).inFlight = none := by
      unfold endConversion
      cases c.discard <;> simp
    refine decided rfl ⟨fun d hd => ?_, fun p => by simp, fun _ => ?_⟩
    · rw [hflight] at hd
      cases hd
    · exact converterLawful_begun hflight (congrArg Reference.state (endConversion_reference s c))
  case monitorFreed m => exact undecided (.of_course (freeMonitor_course s m) (fun p => by simp) (by simp))
  all_goals exact undecided (.of_same (by simp) (by simp) (by simp))

end Shrinking

end Sys2Proof.Machine

/-! The laws of the channels, the reference and the converter, one after another, and the statement that every step keeps them
(01 R2, R3; 02 R24, R27; 03 R54, R55, R60; 05 R86). -/

namespace Sys2Proof.Machine

section ConverterLaws

variable {s t u : State}

/-! ### The converter and its conversion -/

theorem arbitrate_converterLawful (h : converterLawful s) : converterLawful (arbitrate s) := by
  rcases arbitrate_cases s with ht | ⟨-, hsteady, -⟩
  · rwa [ht]
  · have hstate : (arbitrate s).reference.state = s.reference.state := by simp
    cases hx : s.reference.state with
    | settling r n due => simp [hx, RefState.isSteady] at hsteady
    | steady r taken =>
      cases taken with
      | true => simp [hx, RefState.isSteady] at hsteady
      | false =>
        unfold converterLawful
        rw [hstate, hx]
        exact ⟨nofun, nofun⟩

theorem arbitrateIf_converterLawful (b : Bool) (h : converterLawful s) : converterLawful (arbitrateIf b s) := by
  cases b
  · exact h
  · exact arbitrate_converterLawful h

theorem effect_keeps_converter (h : Effect s t) (hs : converterLawful s) : converterLawful t := by
  rcases effect_shrinks h with ⟨b, u, rfl, hu⟩ | ⟨p, e, -, -, -, rfl⟩
  · exact arbitrateIf_converterLawful b (hu.converter hs)
  · exact arbitrate_converterLawful (s := setRequests p _ s) hs

theorem InFlight.lawful_marks {c d : InFlight} (h : c.marks d) (hd : d.lawful) : c.lawful :=
  InFlight.lawful_course (c := { c with discard := false }) (d := { d with discard := false }) h.1 hd

theorem effect_keeps_inFlight (h : Effect s t) (hs : inFlightLawful s) : inFlightLawful t := by
  rcases effect_shrinks h with ⟨b, u, rfl, hu⟩ | ⟨p, e, -, -, -, rfl⟩
  · refine arbitrateIf_inFlightLawful b fun c hc => ?_
    obtain ⟨d, hd, hm⟩ := hu.flight c hc
    exact InFlight.lawful_marks hm (hs d hd)
  · exact arbitrate_inFlightLawful (s := setRequests p _ s) hs

/-- A tick adds one sample at most, and none after the last (01 R2, R8). -/
theorem tick_inFlight (s : State) (c : InFlight) (hc : (tick s).inFlight = some c) :
    ∃ d x, s.inFlight = some d
      ∧ (c = d ∨ d.samples.length < d.averaging.count ∧ c = { d with samples := d.samples ++ [x] }) := by
  have hflight : ∃ v : State, (tick s).inFlight = s.inFlight.map fun c =>
      if c.samples.length < c.averaging.count ∧ c.nextSampleTick = v.clock then
        { c with samples := c.samples ++ [takeSample v c] } else c := by
    refine ⟨{ s with
      clock := s.clock + 1, moment := s.moment + 1, sessions := tickSessions s.sessions
      channels := tickChannels s.channels, reference := { s.reference with state := s.reference.state.ticked }
      timebase := s.timebase.ticked s.activeTiming }, ?_⟩
    unfold tick
    simp [sampleSync, sampleNow]
  obtain ⟨v, hv⟩ := hflight
  rw [hv] at hc
  obtain ⟨d, hd, rfl⟩ := Option.map_eq_some_iff.mp hc
  refine ⟨d, takeSample v d, hd, ?_⟩
  split
  · next h => exact .inr ⟨h.1, rfl⟩
  · exact .inl rfl

theorem tick_keeps_inFlight (h : inFlightLawful s) : inFlightLawful (tick s) := by
  intro c hc
  obtain ⟨d, x, hd, rfl | ⟨hlt, rfl⟩⟩ := tick_inFlight s c hc
  · exact h c hd
  · refine ⟨(h d hd).1, ?_⟩
    simpa using hlt

theorem tick_inFlight_none (s : State) : (tick s).inFlight = none ↔ s.inFlight = none := by
  simp [tick, sampleSync, sampleNow]

theorem tick_keeps_converter (h : converterLawful s) : converterLawful (tick s) := by
  obtain ⟨hsettling, hwaiting⟩ := h
  unfold converterLawful
  rw [Ne, tick_inFlight_none, (tick_fields s).2.2.2.2.1]
  cases hx : s.reference.state with
  | settling r n due => exact ⟨fun _ _ _ _ => hsettling r n due hx, nofun⟩
  | steady r taken =>
    refine ⟨nofun, fun r' hr => ?_⟩
    cases hr
    exact hwaiting r hx

/-! ### The role of the reference -/

theorem holderLawful_congr (h : t.reference = s.reference) (hs : holderLawful s) : holderLawful t := by
  unfold holderLawful at *
  rwa [h]

/-- With a holder there is nothing to hold. -/
theorem holderLawful_held (h : t.reference.holder ≠ none) : holderLawful t := fun hn => absurd hn h

/-- Without a holder the unit is at INTERNAL or heading there, whatever it did before (03 R56). -/
theorem holderLawful_reverted {idle : Bool} {x : RefState} (h : t.reference.state = x.reverted idle) : holderLawful t := by
  intro _
  rw [h]
  cases x with
  | settling r n due => cases r <;> exact .inr (.inr ⟨_, _, rfl⟩)
  | steady r taken =>
    cases r with
    | internal => exact .inl rfl
    | external =>
      cases taken with
      | true => exact .inr (.inl rfl)
      | false =>
        cases idle with
        | true => exact .inr (.inr ⟨_, _, rfl⟩)
        | false => exact .inr (.inl rfl)

theorem effect_keeps_holder (h : Effect s t) (hs : holderLawful s) : holderLawful t := by
  cases h
  case reset cause => exact fun _ => .inl rfl
  case ended p left hp hl =>
    by_cases hh : s.reference.holder = some p
    · exact holderLawful_reverted (x := s.reference.state) (idle := s.inFlight.isNone) (by simp [Reference.afterEnd, hh])
    · exact holderLawful_congr (by simp [Reference.afterEnd, hh]) hs
  case referenceClaimed p hp hh => exact holderLawful_held nofun
  case referenceReleased =>
    exact holderLawful_reverted (x := s.reference.state) (idle := s.inFlight.isNone) (by simp [loseHolder_eq])
  case switchTaken r hx hh hc => exact holderLawful_held (by simpa using hh)
  case switchWithdrawn r hx hh => exact holderLawful_held (by simpa using hh)
  case switchTurned r n due hx hh => exact holderLawful_held hh
  case referenceSettled r n hx =>
    intro hn
    rcases hs (by simpa using hn) with hr | hr | ⟨n', due', hr⟩
    · rw [hx] at hr
      cases hr
    · rw [hx] at hr
      cases hr
    · rw [hx] at hr
      cases hr
      exact .inl (by simp)
  case converted c hc =>
    intro hn
    have hstate : (arbitrate (endConversion c s)).reference.state = s.reference.state.begun := by simp
    rw [hstate]
    rcases hs (by simpa using hn) with hr | hr | ⟨n, due, hr⟩
    · exact .inl (by rw [hr]; rfl)
    · exact .inr (.inr ⟨400, false, by rw [hr]; rfl⟩)
    · exact .inr (.inr ⟨n, due, by rw [hr]; rfl⟩)
  case committed p c hp hb hf =>
    rw [commitCopy_state]
    split <;> exact holderLawful_congr (by simp) hs
  all_goals exact holderLawful_congr (by simp) hs

theorem tick_keeps_holder (h : holderLawful s) : holderLawful (tick s) := by
  intro hn
  rw [(tick_fields s).2.2.2.2.1] at hn ⊢
  dsimp only at hn ⊢
  rcases h hn with hr | hr | ⟨n, due, hr⟩
  · exact .inl (by rw [hr]; rfl)
  · exact .inr (.inl (by rw [hr]; rfl))
  · exact .inr (.inr ⟨_, _, by rw [hr]; rfl⟩)

end ConverterLaws

section ChannelLaws

variable {s t : State}

/-! ### Subscriber lists -/

/-- The subscriber list of one channel is lawful (02 R24). -/
def ChannelRec.listLawful (c : ChannelRec) : Prop :=
  c.subscribers.length ≤ 3 ∧ c.subscribers.Nodup ∧ ∀ o, c.owner = some o → o ∉ c.subscribers

theorem subscribersLawful_iff (s : State) : subscribersLawful s ↔ ∀ ch, (look s.channels ch).listLawful := Iff.rfl

theorem ChannelRec.listLawful_empty {c : ChannelRec} (h : c.subscribers = []) : c.listLawful := by
  unfold ChannelRec.listLawful
  simp [h]

theorem listLawful_put {v : Vector ChannelRec 14} {i : Channel} {x : ChannelRec} (h : ∀ ch, (look v ch).listLawful)
    (hx : x.listLawful) (ch : Channel) : (look (put v i x) ch).listLawful := by
  rw [look_put]
  split
  · exact hx
  · exact h ch

theorem ChannelRec.listLawful_filter {o : Port} {subs : List Port} (f : Port → Bool)
    (h : (ChannelRec.analog o subs).listLawful) : (ChannelRec.analog o (subs.filter f)).listLawful := by
  obtain ⟨hlength, hnodup, hown⟩ := h
  exact ⟨(List.length_filter_le _ _).trans hlength, hnodup.filter _, fun x hx hm => hown x hx (List.mem_of_mem_filter hm)⟩

theorem ChannelRec.unsubscribed_listLawful {p : Port} {c : ChannelRec} (h : c.listLawful) :
    (c.unsubscribed p).listLawful := by
  cases c with
  | analog o subs => exact ChannelRec.listLawful_filter _ h
  | free | digital | settling | reference => exact h

theorem channelAfterEnd_listLawful {p : Port} {c : ChannelRec} (h : c.listLawful) : (channelAfterEnd p c).listLawful := by
  rw [← channelAfterEnd_eq]
  refine ChannelRec.unsubscribed_listLawful ?_
  unfold ChannelRec.freedFrom
  split
  · exact ChannelRec.listLawful_empty rfl
  · exact h

theorem claimWrites_listLawful {p : Port} {x : ChannelRec} (h : claimWrites p x) : x.listLawful := by
  rcases h with rfl | rfl | ⟨d, rfl⟩ <;> exact ChannelRec.listLawful_empty rfl

theorem effect_keeps_subscribers (h : Effect s t) (hs : subscribersLawful s) : subscribersLawful t := by
  rw [subscribersLawful_iff] at hs ⊢
  have freed (i : Channel) (x : ChannelRec) (hx : x.subscribers = []) := listLawful_put (i := i) hs (ChannelRec.listLawful_empty hx)
  cases h
  case reset cause => exact fun ch => ChannelRec.listLawful_empty (by simp [resetBy, State.reset, ChannelRec.subscribers])
  case ended p left hp hl =>
    intro ch
    rw [look_endSession_channels]
    split
    · exact ChannelRec.listLawful_empty rfl
    · exact channelAfterEnd_listLawful (hs ch)
  case claimed p ch x hp hc hx => exact listLawful_put hs (claimWrites_listLawful hx)
  case subscribed p ch o subs hp hc ho hn hl =>
    refine listLawful_put hs ?_
    obtain ⟨-, hnodup, hown⟩ := hc ▸ hs ch
    refine ⟨by simpa [ChannelRec.subscribers] using hl, ?_, fun x hx hm => ?_⟩
    · exact List.nodup_append.mpr ⟨hnodup, List.nodup_singleton p, fun a ha b hb => by
        rw [List.mem_singleton.mp hb]
        exact ne_of_mem_of_not_mem ha hn⟩
    · rcases List.mem_append.mp hm with hm | hm
      · exact hown x hx hm
      · cases hx
        exact ho (List.mem_singleton.mp hm)
  case unsubscribed p ch =>
    rw [unsubscribed_channels]
    exact listLawful_put hs (ChannelRec.unsubscribed_listLawful (hs ch))
  case modeChanged p ch subs hp hc hu =>
    rw [changeMode_channels]
    exact freed ch _ rfl
  case released p ch subs hc hu =>
    rw [releaseAnalog_channels]
    exact freed ch _ rfl
  case freed p ch ho hu => exact freed ch _ rfl
  case analogSettled ch o n hc => exact freed ch _ rfl
  case referenceReleased =>
    rw [loseHolder_eq]
    dsimp only
    split
    · exact freed 11 _ rfl
    · exact hs
  case switchTaken r hx hh hc =>
    rw [(takeSwitch_changes s r).2]
    cases r
    · exact freed 11 _ rfl
    · exact hs
  case switchWithdrawn r hx hh =>
    rw [(withdrawSwitch_changes s r).2]
    cases r
    · exact freed 11 _ rfl
    · exact hs
  case referenceSettled r n hx =>
    simp only [arbitrate_fields, settleEnded_changes]
    cases r
    · exact freed 11 _ rfl
    · exact hs
  case committed p c hp hb hf =>
    rw [commitCopy_state]
    split <;> simpa using hs
  all_goals simpa using hs

theorem ticked_subscribers (c : ChannelRec) : c.ticked.subscribers = c.subscribers := by cases c <;> rfl

theorem ticked_owner (c : ChannelRec) : c.ticked.owner = c.owner := by cases c <;> rfl

theorem tick_keeps_subscribers (h : subscribersLawful s) : subscribersLawful (tick s) := by
  intro ch
  rw [(tick_fields s).2.2.2.1, look_tickChannels, ticked_subscribers, ticked_owner]
  exact h ch

/-! ### Channel 11 and the reference -/

theorem referenceChannelLawful_iff (s : State) :
    referenceChannelLawful s
      ↔ ∀ ch, look s.channels ch = .reference ↔ ch = 11 ∧ s.reference.state ≠ .steady .internal false := by
  constructor
  · rintro ⟨h11, hother⟩ ch
    by_cases hch : ch = 11
    · subst hch
      simpa using h11
    · simpa [hch] using hother ch hch
  · intro h
    exact ⟨by simpa using h 11, fun ch hch hx => hch ((h ch).mp hx).1⟩

theorem referenceChannelLawful_congr (hch : ∀ ch, look t.channels ch = .reference ↔ look s.channels ch = .reference)
    (hstate : t.reference.state = .steady .internal false ↔ s.reference.state = .steady .internal false)
    (h : referenceChannelLawful s) : referenceChannelLawful t := by
  rw [referenceChannelLawful_iff] at h ⊢
  intro ch
  rw [hch, h, Ne, Ne, hstate]

/-- Writing a channel that is not in REFERENCE, and not to REFERENCE. -/
theorem reference_put {v : Vector ChannelRec 14} {i : Channel} {x : ChannelRec} (hbefore : look v i ≠ .reference)
    (hafter : x ≠ .reference) (ch : Channel) : look (put v i x) ch = .reference ↔ look v ch = .reference := by
  rw [look_put]
  split
  · next h =>
    subst h
    exact ⟨fun hx => absurd hx hafter, fun hx => absurd hx hbefore⟩
  · rfl

/-- The unit enters steady internal operation and channel 11 is FREE. -/
theorem referenceChannelLawful_steady (hstate : t.reference.state = .steady .internal false)
    (hch : ∀ ch, ch ≠ 11 → look t.channels ch ≠ .reference) (h11 : look t.channels 11 ≠ .reference) :
    referenceChannelLawful t :=
  ⟨⟨fun h => absurd h h11, fun h => absurd hstate h⟩, hch⟩

theorem channelAfterEnd_reference {p : Port} {c : ChannelRec} : channelAfterEnd p c = .reference ↔ c = .reference := by
  cases c with
  | free | reference => simp [channelAfterEnd]
  | digital o d | settling o n due | analog o subs =>
    unfold channelAfterEnd
    by_cases ho : o = p <;> simp [ho]

theorem unsubscribed_reference {p : Port} {c : ChannelRec} : c.unsubscribed p = .reference ↔ c = .reference := by
  cases c <;> simp [ChannelRec.unsubscribed]

theorem reverted_steady {idle : Bool} {x : RefState} :
    x.reverted idle = .steady .internal false ↔ x = .steady .internal false ∨ x = .steady .internal true := by
  rcases x with ⟨_ | _, _ | _⟩ | ⟨_ | _, n, due⟩ <;> cases idle <;> simp [RefState.reverted]

theorem begun_steady {x : RefState} (h : x ≠ .steady .internal true) :
    x.begun = .steady .internal false ↔ x = .steady .internal false := by
  rcases x with ⟨_ | _, _ | _⟩ | ⟨_ | _, n, due⟩ <;> simp [RefState.begun, settleToward] at h ⊢

theorem effect_keeps_referenceChannel (h : Effect s t) (hs : referenceChannelLawful s) : referenceChannelLawful t := by
  have same {i : Channel} {x : ChannelRec} {u : State} (hchannels : u.channels = put s.channels i x)
      (hstate : u.reference.state = s.reference.state) (hbefore : look s.channels i ≠ .reference)
      (hafter : x ≠ .reference) : referenceChannelLawful u :=
    referenceChannelLawful_congr (fun ch => by rw [hchannels, reference_put hbefore hafter]) (by rw [hstate]) hs
  have released {u : State} (hchannels : u.channels = put s.channels 11 .free)
      (hstate : u.reference.state = .steady .internal false) : referenceChannelLawful u :=
    referenceChannelLawful_steady hstate (fun ch hch => by rw [hchannels, look_put_other _ hch]; exact hs.2 ch hch)
      (by rw [hchannels, look_put_same]; nofun)
  have turned {u : State} (hchannels : u.channels = s.channels) (hbefore : s.reference.state ≠ .steady .internal false)
      (hafter : u.reference.state ≠ .steady .internal false) : referenceChannelLawful u :=
    referenceChannelLawful_congr (fun ch => by rw [hchannels]) (by simp [hbefore, hafter]) hs
  cases h
  case reset cause =>
    exact referenceChannelLawful_steady rfl (fun ch _ => by simp [resetBy, State.reset]) (by simp [resetBy, State.reset])
  case ended p left hp hl =>
    by_cases hw : withdrawsAtEnd s.reference p
    · refine referenceChannelLawful_steady (by simp [Reference.afterEnd, hw.1, hw.2, RefState.reverted]) (fun ch hch => ?_) ?_
      · rw [look_endSession_channels, if_neg fun h => hch h.1, Ne, channelAfterEnd_reference]
        exact hs.2 ch hch
      · rw [look_endSession_channels, if_pos ⟨rfl, hw⟩]
        nofun
    · refine referenceChannelLawful_congr (fun ch => ?_) ?_ hs
      · rw [look_endSession_channels, if_neg fun h => hw h.2, channelAfterEnd_reference]
      · rw [(endSession_fields p left s).2.2.2.2.2.2.1]
        unfold Reference.afterEnd
        split
        · next hh =>
          have hnot : s.reference.state ≠ .steady .internal true := fun hx => hw ⟨hh, hx⟩
          rw [reverted_steady, or_iff_left hnot]
        · rfl
  case claimed p ch x hp hc hx =>
    refine same (i := ch) (x := x) rfl rfl ?_ ?_
    · rcases hc with hc | ⟨d, hc⟩ <;> simp [hc]
    · rcases hx with rfl | rfl | ⟨d, rfl⟩ <;> nofun
  case subscribed p ch o subs hp hc ho hn hl => exact same (i := ch) rfl rfl (by simp [hc]) nofun
  case unsubscribed p ch =>
    refine referenceChannelLawful_congr (fun x => ?_) (by simp) hs
    rw [unsubscribed_channels, look_put]
    split
    · next hx =>
      subst hx
      exact unsubscribed_reference
    · rfl
  case modeChanged p ch subs hp hc hu => exact same (changeMode_channels s ch p subs) (by simp) (by simp [hc]) nofun
  case released p ch subs hc hu => exact same (releaseAnalog_channels s ch p subs) (by simp) (by simp [hc]) nofun
  case freed p ch ho hu =>
    refine same (i := ch) (x := .free) rfl rfl (fun hx => ?_) nofun
    simp [hx, ChannelRec.owner] at ho
  case analogSettled ch o n hc => exact same (i := ch) (x := .analog o []) rfl rfl (by simp [hc]) nofun
  case referenceReleased =>
    by_cases hw : s.reference.state = .steady .internal true
    · exact released (by simp [loseHolder_eq, hw]) (by simp [loseHolder_eq, hw, RefState.reverted])
    · exact referenceChannelLawful_congr (fun ch => by simp [loseHolder_eq, hw])
        (by simp [loseHolder_eq, reverted_steady, hw]) hs
  case switchTaken r hx hh hc =>
    cases r with
    | internal =>
      refine ⟨?_, fun ch hch => ?_⟩
      · simp only [takeSwitch_changes, look_put_same, true_iff]
        split <;> nofun
      · simp only [takeSwitch_changes, look_put_other _ hch]
        exact hs.2 ch hch
    | external =>
      refine turned (by simp) (by simp [hx]) ?_
      simp only [takeSwitch_changes]
      split <;> nofun
  case switchWithdrawn r hx hh =>
    cases r with
    | internal => exact released (by simp) (by simp)
    | external => exact turned (by simp) (by simp [hx]) (by simp)
  case switchTurned r n due hx hh => exact turned rfl (by simp [hx]) nofun
  case referenceSettled r n hx =>
    cases r with
    | internal => exact released (by simp) (by simp)
    | external => exact turned (by simp) (by simp [hx]) (by simp)
  case converted c hc =>
    by_cases hx : s.reference.state = .steady .internal true
    · exact turned (by simp) (by simp [hx]) (by simp [hx, RefState.begun, settleToward])
    · exact referenceChannelLawful_congr (fun ch => by simp) (by simp [begun_steady hx]) hs
  case committed p c hp hb hf =>
    rw [commitCopy_state]
    split <;> exact referenceChannelLawful_congr (fun ch => by simp) (by simp) hs
  all_goals exact referenceChannelLawful_congr (fun ch => by simp) (by simp) hs

theorem tick_keeps_referenceChannel (h : referenceChannelLawful s) : referenceChannelLawful (tick s) := by
  refine referenceChannelLawful_congr (fun ch => ?_) ?_ h
  · rw [(tick_fields s).2.2.2.1, look_tickChannels]
    cases look s.channels ch <;> simp [ChannelRec.ticked]
  · rw [(tick_fields s).2.2.2.2.1]
    dsimp only
    cases s.reference.state <;> simp [RefState.ticked]

end ChannelLaws

/-! ### The slots of the plans and their channels -/

section PlannedSlots

variable {s t : State}

theorem holdsAnalog_iff {p : Port} {ch : Channel} :
    holdsAnalog s p ch = true ↔ ∃ subs, look s.channels ch = .analog p subs := by
  unfold holdsAnalog
  split
  · next o subs h => simp [h]
  · next h => simpa using fun subs => h p subs

/-- The slot stands in the next plan, or in the active plan and is not void. -/
def inPlans (s : State) (sl : Slot) : Prop := sl ∈ s.nextPlan ∨ (sl, false) ∈ outline s.activePlan

theorem mem_outline {plan : List ActiveSlot} {sl : Slot} {void : Bool} :
    (sl, void) ∈ outline plan ↔ ∃ a ∈ plan, a.slot = sl ∧ a.void = void := by
  simp [outline]

theorem plansHeld_iff (s : State) :
    plansHeld s ↔ ∀ sl, inPlans s sl → holdsAnalog s sl.owner sl.channel = true := by
  constructor
  · rintro ⟨hnext, hactive⟩ sl (h | h)
    · exact hnext sl h
    · obtain ⟨a, ha, rfl, hv⟩ := mem_outline.mp h
      exact hactive a ha hv
  · intro h
    exact ⟨fun sl hsl => h sl (.inl hsl), fun a ha hv => h a.slot (.inr (mem_outline.mpr ⟨a, ha, rfl, hv⟩))⟩

theorem plansHeld_of (hplanned : ∀ sl, inPlans t sl → inPlans s sl)
    (hholds : ∀ sl, inPlans s sl → holdsAnalog s sl.owner sl.channel = true → holdsAnalog t sl.owner sl.channel = true)
    (h : plansHeld s) : plansHeld t := by
  rw [plansHeld_iff] at h ⊢
  exact fun sl hsl => hholds sl (hplanned sl hsl) (h sl (hplanned sl hsl))

theorem plansHeld_congr (hchannels : t.channels = s.channels) (hnext : t.nextPlan = s.nextPlan)
    (hplan : outline t.activePlan = outline s.activePlan) (h : plansHeld s) : plansHeld t :=
  plansHeld_of (fun sl => by simp only [inPlans, hnext, hplan, imp_self])
    (fun sl _ => by simp only [holdsAnalog, hchannels, imp_self]) h

/-- A channel that no inPlans slot names may be written. -/
theorem plansHeld_put {i : Channel} {x : ChannelRec} (hchannels : t.channels = put s.channels i x)
    (hnext : t.nextPlan = s.nextPlan) (hplan : outline t.activePlan = outline s.activePlan)
    (hfree : ∀ sl, inPlans s sl → holdsAnalog s sl.owner sl.channel = true → sl.channel = i → ∃ subs, x = .analog sl.owner subs)
    (h : plansHeld s) : plansHeld t := by
  refine plansHeld_of (fun sl => by simp only [inPlans, hnext, hplan, imp_self]) (fun sl hsl hh => ?_) h
  by_cases hi : sl.channel = i
  · obtain ⟨subs, rfl⟩ := hfree sl hsl hh hi
    exact holdsAnalog_iff.mpr ⟨subs, by rw [hchannels, hi, look_put_same]⟩
  · obtain ⟨subs, hx⟩ := holdsAnalog_iff.mp hh
    exact holdsAnalog_iff.mpr ⟨subs, by rw [hchannels, look_put_other _ hi, hx]⟩

/-- A channel in plan use is one that a inPlans slot names (02 R36). -/
theorem not_inPlans_of_planUse {ch : Channel} (h : planUse s ch = false) (sl : Slot) (hsl : inPlans s sl) :
    sl.channel ≠ ch := by
  simp only [planUse, Bool.or_eq_false_iff, List.any_eq_false, Bool.and_eq_true, Bool.not_eq_true'] at h
  obtain ⟨hnext, hactive⟩ := h
  rcases hsl with hsl | hsl
  · exact fun e => hnext sl hsl (by simpa using e)
  · obtain ⟨a, ha, rfl, hv⟩ := mem_outline.mp hsl
    exact fun e => hactive a ha ⟨hv, by simpa using e⟩

/-- Every slot of a copy belongs to a session that holds its channel in ANALOG (05 R86). -/
def PlanCopy.held (s : State) (c : PlanCopy) : Prop := ∀ sl ∈ c.slots, holdsAnalog s sl.owner sl.channel = true

theorem applyEdit_held {p : Port} {c d : PlanCopy} {e : Edit} (h : applyEdit s p c e = .ok d) (hc : c.held s) :
    d.held s := by
  cases e with
  | add sl =>
    obtain ⟨hh, rfl⟩ := applyEdit_add.mp h
    intro x hx
    rcases List.mem_append.mp hx with hx | hx
    · exact hc x hx
    · rw [List.mem_singleton.mp hx]
      exact hh
  | move id phase =>
    obtain ⟨sl, -, -, rfl⟩ := applyEdit_move.mp h
    intro x hx
    obtain ⟨y, hy, rfl⟩ := List.mem_map.mp hx
    have := hc y hy
    split <;> exact this
  | drop id =>
    obtain ⟨sl, -, -, rfl⟩ := applyEdit_drop.mp h
    exact fun x hx => hc x (List.mem_of_mem_filter hx)
  | timing r =>
    obtain ⟨-, rfl⟩ := applyEdit_timing_edit.mp h
    exact hc

theorem applyEdits_held {p : Port} {edits : List Edit} {i : Nat} {c d : PlanCopy}
    (h : applyEdits s p i edits c = .ok d) (hc : c.held s) : d.held s := by
  induction edits generalizing i c with
  | nil =>
    cases h
    exact hc
  | cons e es ih =>
    unfold applyEdits at h
    split at h
    · next b hb => exact ih h (applyEdit_held hb hc)
    · cases h

theorem insertSlot_perm (x : Slot) (l : List Slot) : (insertSlot x l).Perm (x :: l) := by
  induction l with
  | nil => exact List.Perm.refl _
  | cons y ys ih =>
    unfold insertSlot
    split
    · exact List.Perm.refl _
    · exact (ih.cons y).trans (List.Perm.swap x y ys)

/-- Putting slots in phase order neither adds nor drops one (05 R85). -/
theorem inPhaseOrder_perm (l : List Slot) : (inPhaseOrder l).Perm l := by
  induction l with
  | nil => exact List.Perm.refl _
  | cons x xs ih => exact (insertSlot_perm x _).trans (ih.cons x)

theorem buildCopy_held {p : Port} {c : PlanCopy} (h : buildCopy s p = .ok c)
    (hs : ∀ sl ∈ s.nextPlan, holdsAnalog s sl.owner sl.channel = true) : c.held s := by
  obtain ⟨d, hd, rfl⟩ := buildCopy_ok h
  exact fun sl hsl => applyEdits_held hd hs sl ((inPhaseOrder_perm d.slots).mem_iff.mp hsl)

/-- A session end takes the slots of the session out of the plans, and leaves every other ANALOG channel to its owner. -/
theorem endSession_planned {p : Port} {left : SessionState} {sl : Slot} (h : inPlans (endSession p left s) sl) :
    inPlans s sl ∧ sl.owner ≠ p := by
  unfold inPlans at h ⊢
  rw [(endSession_fields p left s).2.2.2.2.2.2.2.2.2.2, endSession_outline] at h
  rcases h with h | h
  · obtain ⟨hm, ho⟩ := List.mem_filter.mp h
    exact ⟨.inl hm, by simpa using ho⟩
  · obtain ⟨a, ha, hsl, hv⟩ := mem_outline.mp h
    obtain ⟨b, hb, rfl⟩ := List.mem_map.mp ha
    by_cases ho : b.slot.owner = p
    · rw [if_pos ho] at hv
      cases hv
    · rw [if_neg ho] at hsl hv
      exact ⟨.inr (mem_outline.mpr ⟨b, hb, hsl, hv⟩), hsl ▸ ho⟩

theorem endSession_holds {p o : Port} {left : SessionState} {ch : Channel} (hs : referenceChannelLawful s) (ho : o ≠ p)
    (h : holdsAnalog s o ch = true) : holdsAnalog (endSession p left s) o ch = true := by
  obtain ⟨subs, hx⟩ := holdsAnalog_iff.mp h
  have hnot : ¬(ch = 11 ∧ withdrawsAtEnd s.reference p) := by
    rintro ⟨rfl, -, hstate⟩
    have := hs.1.mpr (by simp [hstate])
    rw [hx] at this
    cases this
  refine holdsAnalog_iff.mpr ⟨subs.filter fun x => x != p, ?_⟩
  rw [look_endSession_channels, if_neg hnot, hx, channelAfterEnd, if_neg ho]

theorem effect_keeps_plansHeld (h : Effect s t) (href : referenceChannelLawful s) (hs : plansHeld s) : plansHeld t := by
  have unused {i : Channel} {u : State} {x : ChannelRec} (hchannels : u.channels = put s.channels i x)
      (hnext : u.nextPlan = s.nextPlan) (hplan : outline u.activePlan = outline s.activePlan)
      (hnot : ∀ o subs, look s.channels i ≠ .analog o subs) : plansHeld u := by
    refine plansHeld_put hchannels hnext hplan (fun sl _ hh hi => ?_) hs
    obtain ⟨subs, hx⟩ := holdsAnalog_iff.mp hh
    exact absurd (hi ▸ hx) (hnot _ _)
  have free11 (hx : s.reference.state ≠ .steady .internal false) : ∀ o subs, look s.channels 11 ≠ .analog o subs := by
    intro o subs
    rw [href.1.mpr hx]
    nofun
  cases h
  case reset cause => exact ⟨nofun, nofun⟩
  case ended p left hp hl =>
    rw [plansHeld_iff] at hs ⊢
    intro sl hsl
    obtain ⟨hpl, ho⟩ := endSession_planned hsl
    exact endSession_holds href ho (hs sl hpl)
  case claimed p ch x hp hc hx =>
    refine unused (i := ch) (x := x) rfl rfl rfl fun o subs => ?_
    rcases hc with hc | ⟨d, hc⟩ <;> simp [hc]
  case subscribed p ch o subs hp hc ho hn hl =>
    refine plansHeld_put (i := ch) (x := .analog o (subs ++ [p])) rfl rfl rfl (fun sl _ hh hi => ?_) hs
    obtain ⟨subs', hx⟩ := holdsAnalog_iff.mp hh
    rw [hi, hc] at hx
    cases hx
    exact ⟨_, rfl⟩
  case unsubscribed p ch =>
    refine plansHeld_put (unsubscribed_channels s p ch) (by simp) (by simp) (fun sl _ hh hi => ?_) hs
    obtain ⟨subs, hx⟩ := holdsAnalog_iff.mp hh
    rw [← hi, hx]
    exact ⟨_, rfl⟩
  case modeChanged p ch subs hp hc hu =>
    exact plansHeld_put (changeMode_channels s ch p subs) (by simp) (by simp)
      (fun sl hsl _ hi => absurd hi (not_inPlans_of_planUse hu sl hsl)) hs
  case released p ch subs hc hu =>
    exact plansHeld_put (releaseAnalog_channels s ch p subs) (by simp) (by simp)
      (fun sl hsl _ hi => absurd hi (not_inPlans_of_planUse hu sl hsl)) hs
  case freed p ch ho hu =>
    exact plansHeld_put (i := ch) (x := .free) rfl rfl rfl
      (fun sl hsl _ hi => absurd hi (not_inPlans_of_planUse hu sl hsl)) hs
  case analogSettled ch o n hc => exact unused (i := ch) (x := .analog o []) rfl rfl rfl (by simp [hc])
  case referenceReleased =>
    by_cases hw : s.reference.state = .steady .internal true
    · exact unused (i := 11) (x := .free) (by simp [loseHolder_eq, hw]) (by simp) (by simp) (free11 (by simp [hw]))
    · exact plansHeld_congr (by simp [loseHolder_eq, hw]) (by simp) (by simp) hs
  case switchTaken r hx hh hc =>
    cases r with
    | internal => exact unused (i := 11) (x := .reference) (by simp) (by simp) (by simp) (by simp [hc rfl])
    | external => exact plansHeld_congr (by simp) (by simp) (by simp) hs
  case switchWithdrawn r hx hh =>
    cases r with
    | internal => exact unused (i := 11) (x := .free) (by simp) (by simp) (by simp) (free11 (by simp [hx]))
    | external => exact plansHeld_congr (by simp) (by simp) (by simp) hs
  case referenceSettled r n hx =>
    cases r with
    | internal => exact unused (i := 11) (x := .free) (by simp) (by simp) (by simp) (free11 (by simp [hx]))
    | external => exact plansHeld_congr (by simp) (by simp) (by simp) hs
  case boundary o hr hm =>
    refine plansHeld_of (fun sl hsl => ?_) (fun sl _ => by simp [holdsAnalog]) hs
    exact .inl (by simpa [inPlans] using hsl)
  case committed p c hp hb hf =>
    have hc := buildCopy_held hb hs.1
    have hbuilt : plansHeld { s with nextPlan := c.slots } := ⟨hc, hs.2⟩
    rw [commitCopy_state]
    split
    · exact plansHeld_congr (by simp) (by simp) (by simp) hbuilt
    · rw [plansHeld_iff]
      intro sl hsl
      have hm : sl ∈ c.slots := by simpa [inPlans] using hsl
      simpa [holdsAnalog] using hc sl hm
  all_goals exact plansHeld_congr (by simp) (by simp) (by simp) hs

theorem tick_keeps_plansHeld (h : plansHeld s) : plansHeld (tick s) := by
  refine plansHeld_of (fun sl => by simp [inPlans]) (fun sl _ hh => ?_) h
  obtain ⟨subs, hx⟩ := holdsAnalog_iff.mp hh
  exact holdsAnalog_iff.mpr ⟨subs, by rw [(tick_fields s).2.2.2.1, look_tickChannels, hx]; rfl⟩

end PlannedSlots

/-! ### Every step -/

/-- The laws of the channels, the reference and the converter. -/
structure ChannelsLawful (s : State) : Prop where
  channel11 : referenceChannelLawful s
  converter : converterLawful s
  holder : holderLawful s
  subscribers : subscribersLawful s
  flight : inFlightLawful s
  held : plansHeld s

/-- The laws read the channels, the reference, the conversion in flight and the plans. -/
theorem ChannelsLawful.congr {s t : State} (hchannels : t.channels = s.channels) (hreference : t.reference = s.reference)
    (hflight : t.inFlight = s.inFlight) (hnext : t.nextPlan = s.nextPlan) (hactive : t.activePlan = s.activePlan)
    (h : ChannelsLawful s) : ChannelsLawful t where
  channel11 := referenceChannelLawful_congr (fun ch => by rw [hchannels]) (by rw [hreference]) h.channel11
  converter := converterLawful_congr (by rw [hreference]) (by rw [hflight]) h.converter
  holder := holderLawful_congr hreference h.holder
  subscribers := by
    have hsubs := h.subscribers
    unfold subscribersLawful at hsubs ⊢
    rwa [hchannels]
  flight := inFlightLawful_congr (by rw [hflight]) h.flight
  held := plansHeld_congr hchannels hnext (by rw [hactive]) h.held

/-- Settles O57: the six laws together are kept by every effect and by a tick. -/
theorem stepKeepsChannelsLawful : Obligations.StepKeepsChannelsLawful := by
  intro s t hchannel hconverter hholder hsubscribers hflight hheld hstep
  have ht : ChannelsLawful t := step_keeps (P := ChannelsLawful)
    (fun s _ _ h => ChannelsLawful.congr (s := s) rfl rfl rfl rfl rfl h)
    (fun s t ho h => h.congr (by rw [ho.blocks]) (by rw [ho.blocks]) (by rw [ho.blocks]) (by rw [ho.blocks]) (by rw [ho.blocks]))
    (fun _ _ he h => ⟨effect_keeps_referenceChannel he h.channel11, effect_keeps_converter he h.converter,
      effect_keeps_holder he h.holder, effect_keeps_subscribers he h.subscribers, effect_keeps_inFlight he h.flight,
      effect_keeps_plansHeld he h.channel11 h.held⟩)
    (fun s h => h.congr (by simp) (by simp) (by simp) (by simp) (by simp))
    (fun s _ h => ⟨tick_keeps_referenceChannel h.channel11, tick_keeps_converter h.converter, tick_keeps_holder h.holder,
      tick_keeps_subscribers h.subscribers, tick_keeps_inFlight h.flight, tick_keeps_plansHeld h.held⟩)
    ⟨hchannel, hconverter, hholder, hsubscribers, hflight, hheld⟩ hstep
  exact ⟨ht.channel11, ht.converter, ht.holder, ht.subscribers, ht.flight, ht.held⟩

end Sys2Proof.Machine

/-! The queues of the hub: they only take offers, in their sessions' OPEN state, and every step keeps them within their
capacities, with consecutive sequence numbers and distinct Tags (06 R113; 07 R133 to R135; 09 R160). -/

namespace Sys2Proof.Machine

/-! ### Queues that only take offers -/

/-- From `s` to `t` the queues of results and of events have taken offers, those of a session that is not OPEN have taken none,
and the same sessions are OPEN. -/
structure QueuesGrow (s t : State) : Prop where
  results : ∀ p : Port, ∃ os : List (OverflowPolicy × ResultRecord),
    look t.results p = os.foldl (fun q o => enqueue o.1 o.2 q) (look s.results p) ∧ (isOpen s p = false → os = [])
  events : ∀ p : Port, ∃ es : List EventRecord,
    look t.events p = es.foldl (fun q e => enqueueEvent e q) (look s.events p) ∧ (isOpen s p = false → es = [])
  opened : ∀ p : Port, isOpen t p = isOpen s p

namespace QueuesGrow

variable {s t u : State}

theorem of_same (hresults : t.results = s.results) (hevents : t.events = s.events)
    (hopen : ∀ p, isOpen t p = isOpen s p) : QueuesGrow s t where
  results p := ⟨[], by rw [hresults]; rfl, fun _ => rfl⟩
  events p := ⟨[], by rw [hevents]; rfl, fun _ => rfl⟩
  opened := hopen

theorem isOpen_congr (h : t.sessions = s.sessions) (p : Port) : isOpen t p = isOpen s p := by
  unfold isOpen
  rw [h]

theorem of_fields (hresults : t.results = s.results) (hevents : t.events = s.events) (hsessions : t.sessions = s.sessions) :
    QueuesGrow s t := of_same hresults hevents (isOpen_congr hsessions)

theorem refl : QueuesGrow s s := of_fields rfl rfl rfl

theorem trans (h : QueuesGrow s t) (h' : QueuesGrow t u) : QueuesGrow s u where
  results p := by
    obtain ⟨os, hos, hnone⟩ := h.results p
    obtain ⟨os', hos', hnone'⟩ := h'.results p
    refine ⟨os ++ os', by rw [List.foldl_append, ← hos, hos'], fun hp => ?_⟩
    rw [hnone hp, hnone' ((h.opened p).trans hp)]
    rfl
  events p := by
    obtain ⟨es, hes, hnone⟩ := h.events p
    obtain ⟨es', hes', hnone'⟩ := h'.events p
    refine ⟨es ++ es', by rw [List.foldl_append, ← hes, hes'], fun hp => ?_⟩
    rw [hnone hp, hnone' ((h.opened p).trans hp)]
    rfl
  opened p := (h'.opened p).trans (h.opened p)

/-- Queues that grow from a state with the same queues and sessions. -/
theorem after (h : QueuesGrow u t) (hresults : u.results = s.results) (hevents : u.events = s.events)
    (hsessions : u.sessions = s.sessions) : QueuesGrow s t :=
  (of_fields hresults hevents hsessions).trans h

end QueuesGrow

section Offers

variable (s : State)

theorem offerResults_grow (os : List (ResultRecord × Port)) : QueuesGrow s (offerResults os s) where
  results p := by
    have hqueue := look_offeredResults s.sessions os s.results p
    unfold isOpen
    cases hl : (look s.sessions p).lease with
    | none =>
      rw [hl] at hqueue
      exact ⟨[], hqueue, fun _ => rfl⟩
    | some l =>
      rw [hl] at hqueue
      refine ⟨(os.filter fun o => o.2 == p).map fun o => (l.policy, o.1), ?_, nofun⟩
      rw [List.foldl_map]
      exact hqueue
  events p := ⟨[], rfl, fun _ => rfl⟩
  opened _ := rfl

theorem offerEvents_grow (os : List (EventKind × Port)) : QueuesGrow s (offerEvents os s) where
  results p := ⟨[], rfl, fun _ => rfl⟩
  events p := by
    have hqueue := look_offeredEvents s.sessions s.timebase.frameNumber os s.events p
    unfold isOpen
    by_cases ho : (look s.sessions p).lease.isSome = true
    · rw [if_pos ho] at hqueue
      refine ⟨(os.filter fun o => o.2 == p).map fun o => { kind := o.1, frame := s.timebase.frameNumber }, ?_, fun h => ?_⟩
      · rw [List.foldl_map]
        exact hqueue
      · rw [ho] at h
        cases h
    · rw [if_neg ho] at hqueue
      exact ⟨[], hqueue, fun _ => rfl⟩
  opened _ := rfl

theorem broadcast_grow (k : EventKind) : QueuesGrow s (broadcast k s) := offerEvents_grow s _

theorem broadcasts_grow (ks : List EventKind) : QueuesGrow s (ks.foldl (fun x k => broadcast k x) s) := by
  induction ks generalizing s with
  | nil => exact .refl
  | cons k ks ih => exact (broadcast_grow s k).trans (ih _)

theorem removeEntries_grow (flags : ResultFlags) (pick : RequestEntry → Bool) (ps : List Port) :
    QueuesGrow s (removeEntries flags pick ps s) :=
  QueuesGrow.trans (t := { s with requests := ps.foldl (withoutEntries pick) s.requests }) (.of_fields rfl rfl rfl)
    (offerResults_grow _ _)

theorem withdrawUsers_grow (ch : Channel) (cause : LossCause) (o : Port) (subs : List Port) :
    QueuesGrow s (withdrawUsers ch cause o subs s) :=
  (removeEntries_grow s _ _ _).trans (offerEvents_grow _ _)

theorem arbitrateIf_grow (b : Bool) : QueuesGrow s (arbitrateIf b s) := .of_fields (by simp) (by simp) (by simp)

theorem arbitrate_grow : QueuesGrow s (arbitrate s) := arbitrateIf_grow s true

theorem changeMode_grow (ch : Channel) (o : Port) (subs : List Port) : QueuesGrow s (changeMode ch o subs s) := by
  have hwithdrawn : QueuesGrow s (setChannel ch (.digital o .initial) (withdrawUsers ch .modeChange o subs s)) :=
    (withdrawUsers_grow s _ _ _ _).trans (.of_fields rfl rfl rfl)
  exact hwithdrawn.trans (arbitrateIf_grow _ _)

theorem releaseAnalog_grow (ch : Channel) (o : Port) (subs : List Port) : QueuesGrow s (releaseAnalog ch o subs s) := by
  have hwithdrawn : QueuesGrow s (setLatest ch none (setChannel ch .free (withdrawUsers ch .released o subs s))) :=
    (withdrawUsers_grow s _ _ _ _).trans (.of_fields rfl rfl rfl)
  exact hwithdrawn.trans (arbitrateIf_grow _ _)

theorem detachLeaving_grow (id : SlotId) : QueuesGrow s (detachLeaving s id) := by
  unfold detachLeaving
  split
  · exact .refl
  · split
    · exact .refl
    · exact QueuesGrow.trans (t := freeMonitor _ s) (.of_fields rfl rfl rfl) (offerEvents_grow _ _)

theorem detachLeavings_grow (ids : List SlotId) : QueuesGrow s (ids.foldl detachLeaving s) := by
  induction ids generalizing s with
  | nil => exact .refl
  | cons id ids ih => exact (detachLeaving_grow s id).trans (ih _)

theorem deliver_grow (c : InFlight) : QueuesGrow s (deliver c s) := by
  have hmonitor : QueuesGrow s (monitorStage c s) := by
    unfold monitorStage
    split
    · exact .refl
    · exact QueuesGrow.trans (t := setMonitor _ _ s) (.of_fields rfl rfl rfl) (offerEvents_grow _ _)
  have hlatest (v : State) : QueuesGrow v (latestStage c v) := by
    unfold latestStage
    split
    · exact .refl
    · exact .refl
    all_goals exact .of_fields rfl rfl rfl
  exact hmonitor.trans ((hlatest _).trans (offerResults_grow _ _))

theorem endConversion_grow (c : InFlight) : QueuesGrow s (endConversion c s) := by
  have hbegin (v : State) : QueuesGrow v (beginSettle v) := .of_fields (by simp) (by simp) (by simp)
  refine QueuesGrow.trans (t := { s with inFlight := none, activePlan := doneSlot c s.activePlan })
    (.of_fields rfl rfl rfl) (.trans ?_ (hbegin _))
  split
  · exact .refl
  · exact deliver_grow _ c

theorem phaseArrival_grow : QueuesGrow s (phaseArrival s) := by
  unfold phaseArrival
  split
  · exact .refl
  · dsimp only
    split
    · exact QueuesGrow.trans (t := { s with activePlan := updateSlot _ _ s.activePlan }) (.of_fields rfl rfl rfl)
        (offerResults_grow _ _)
    · exact .of_fields rfl rfl rfl

theorem startFrame0_grow (st : TimebaseState) (also : List EventKind) : QueuesGrow s (startFrame0 st also s) := by
  unfold startFrame0
  exact .after ((broadcast_grow _ _).trans ((broadcasts_grow _ _).trans (phaseArrival_grow _))) rfl rfl rfl

theorem replacePlan_grow : QueuesGrow s (replacePlan s) := by
  have hdetached := detachLeavings_grow s (((leavingSlots s).filter fun a => !a.void).map fun a => a.slot.id)
  rw [List.foldl_map] at hdetached
  exact hdetached.trans (.of_fields rfl rfl rfl)

theorem planChanged_grow (changed : Bool) : QueuesGrow s (planChanged changed s) := by
  cases changed
  · exact .refl
  · exact .after (removeEntries_grow _ _ _ _) rfl rfl rfl

theorem missPending_grow (ending : Half) : QueuesGrow s (missPending ending s) :=
  .after (offerResults_grow _ _) rfl rfl rfl

theorem answerNotes_grow : QueuesGrow s (answerNotes s) := (offerEvents_grow s _).trans (.of_fields rfl rfl rfl)

theorem boundaryStage2_grow (ending : Half) : QueuesGrow s (boundaryStage2 ending s) :=
  (missPending_grow s ending).trans ((replacePlan_grow _).trans ((answerNotes_grow _).trans (planChanged_grow _ _)))

theorem takeBoundary_grow (o : SyncOutcome) : QueuesGrow s (takeBoundary o s) := by
  have hstages : QueuesGrow s (boundaryStage2 s.timebase.frameNumber (boundaryStage1 o s)) :=
    .after (boundaryStage2_grow _ _) rfl rfl rfl
  unfold takeBoundary
  dsimp only
  split
  · exact hstages.trans (.after (broadcast_grow _ _) rfl rfl rfl)
  · refine hstages.trans (.trans ?_ (arbitrate_grow _))
    exact .after ((broadcasts_grow _ _).trans (phaseArrival_grow _)) rfl rfl rfl

theorem timebaseAfterApply_grow : QueuesGrow s (timebaseAfterApply s) := by
  unfold timebaseAfterApply
  split
  · exact .of_fields rfl rfl rfl
  · split
    · exact startFrame0_grow _ _ _
    · split
      · split
        · exact startFrame0_grow _ _ _
        · exact .refl
      · exact .of_fields rfl rfl rfl

theorem immediateApply_grow : QueuesGrow s (immediateApply s) :=
  (replacePlan_grow s).trans ((planChanged_grow _ _).trans ((timebaseAfterApply_grow _).trans (arbitrate_grow _)))

theorem installCopy_grow (p : Port) (c : PlanCopy) : QueuesGrow s (installCopy p c s) :=
  .after (detachLeavings_grow _ _) rfl rfl rfl

theorem freeOwned_grow (p : Port) (ch : Channel) : QueuesGrow s (freeOwned p s ch) := by
  unfold freeOwned
  split
  · split
    · exact (withdrawUsers_grow s _ _ _ _).trans (.of_fields rfl rfl rfl)
    · exact .refl
  · split
    · exact .of_fields rfl rfl rfl
    · exact .refl
  · split
    · exact .of_fields rfl rfl rfl
    · exact .refl
  · exact .refl
  · exact .refl

theorem freeOwned_folded_grow (p : Port) (l : List Channel) : QueuesGrow s (l.foldl (freeOwned p) s) := by
  induction l generalizing s with
  | nil => exact .refl
  | cons ch l ih => exact (freeOwned_grow s p ch).trans (ih _)

end Offers

/-! ### What an effect does to the queues -/

section EffectQueues

variable {s t : State}

theorem isOpen_setSession {p : Port} {x : Session} (s : State) (q : Port) :
    isOpen (setSession p x s) q = if p = q then x.lease.isSome else isOpen s q := by
  unfold isOpen
  rw [setSession_sessions, look_put]
  split <;> rfl

/-- The queues after a session end: offers taken, then the session's own emptied (07 R143, 09 R165). -/
theorem endSession_queues (p : Port) (left : SessionState) (s : State) :
    ∃ v, QueuesGrow (setSession p { look s.sessions p with state := left } s) v
      ∧ (endSession p left s).results = put v.results p { look v.results p with records := [], overflow := 0 }
      ∧ (endSession p left s).events = put v.events p { records := [], lost := 0 } := by
  refine ⟨_, freeOwned_folded_grow _ p allChannels, ?_, ?_⟩
  · simp only [endSession, arbitrateIf_fields]
    rw [teardown_eq]
  · simp only [endSession, arbitrateIf_fields]
    rw [teardown_eq]

/-- What an effect does to the queues of results and events: they take offers, or a reset, an OPEN, a session end or a fetch
empties some. -/
inductive QueueEffect (s t : State) : Prop
  | grow (h : QueuesGrow s t)
  | reset (hr : t.results = State.reset.results) (he : t.events = State.reset.events)
  | opened (p : Port) (hr : t.results = put s.results p { records := [], nextSequence := 0, overflow := 0 })
      (he : t.events = put s.events p { records := [], lost := 0 })
  | ended (p : Port) (left : SessionState) (v : State)
      (hv : QueuesGrow (setSession p { look s.sessions p with state := left } s) v)
      (hr : t.results = put v.results p { look v.results p with records := [], overflow := 0 })
      (he : t.events = put v.events p { records := [], lost := 0 })
  | resultsFetched (p : Port) (n : Nat) (he : t.events = s.events)
      (hr : t.results
        = put s.results p { look s.results p with records := (look s.results p).records.drop n, overflow := 0 })
  | eventsFetched (p : Port) (n : Nat) (hr : t.results = s.results)
      (he : t.events = put s.events p { records := (look s.events p).records.drop n, lost := 0 })

theorem effect_queues (h : Effect s t) : QueueEffect s t := by
  have same (hr : t.results = s.results) (he : t.events = s.events) (hs : t.sessions = s.sessions) : QueueEffect s t :=
    .grow (.of_fields hr he hs)
  cases h
  case reset cause => exact .reset rfl rfl
  case opened p a ha hp => exact .opened p (by simp) (by simp)
  case ended p left hp hl =>
    obtain ⟨v, hv, hr, he⟩ := endSession_queues p left s
    exact .ended p left v hv hr he
  case renewed p l hx =>
    refine .grow (.of_same rfl rfl fun q => ?_)
    rw [isOpen_setSession]
    split
    · next hq =>
      subst hq
      simp [isOpen, Session.lease, hx]
    · rfl
  case fallen p l os hx =>
    refine .grow (.trans (t := setSession p { look s.sessions p with state := .opened l.fallen } s)
      (.of_same rfl rfl fun q => ?_) (offerEvents_grow _ os))
    rw [isOpen_setSession]
    split
    · next hq =>
      subst hq
      simp [isOpen, Session.lease, hx]
    · rfl
  case unsubscribed p ch =>
    refine .grow ?_
    unfold unsubscribed
    have hremoved := removeEntries_grow s .cancelledOnly (fun e => e.channel == ch) [p]
    refine .trans (hremoved.trans ?_) (arbitrateIf_grow _ _)
    split <;> exact .of_fields rfl rfl rfl
  case modeChanged p ch subs hp hc hu =>
    exact .grow (changeMode_grow s ch p subs)
  case released p ch subs hc hu =>
    exact .grow (releaseAnalog_grow s ch p subs)
  case analogSettled ch o n hc =>
    exact .grow (.trans (t := setChannel ch (.analog o []) s) (.of_fields rfl rfl rfl) (offerEvents_grow _ _))
  case referenceSettled r n hx =>
    refine .grow (.trans (.trans ?_ (broadcast_grow _ _)) (arbitrate_grow _))
    cases r <;> exact .of_fields rfl rfl rfl
  case boundary o hr hm => exact .grow (takeBoundary_grow s o)
  case synchronised n hx => exact .grow ((startFrame0_grow s _ _).trans (arbitrate_grow _))
  case huntingEnded n hx => exact .grow ((startFrame0_grow s _ _).trans (arbitrate_grow _))
  case phaseArrived => exact .grow ((phaseArrival_grow s).trans (arbitrateIf_grow _ _))
  case committed p c hp hb hf =>
    refine .grow ?_
    rw [commitCopy_state]
    split
    · exact (installCopy_grow s p c).trans (.trans (t := setNoted p true _) (.of_fields rfl rfl rfl) (arbitrate_grow _))
    · exact (installCopy_grow s p c).trans (immediateApply_grow _)
  case cancelled p tag => exact .grow ((removeEntries_grow s _ _ _).trans (arbitrateIf_grow _ _))
  case converted c hc => exact .grow ((endConversion_grow s c).trans (arbitrate_grow _))
  case resultsFetched p n => exact .resultsFetched p n rfl rfl
  case eventsFetched p n => exact .eventsFetched p n rfl rfl
  all_goals exact same (by simp) (by simp) (by simp)

end EffectQueues

end Sys2Proof.Machine

/-! The laws of the queues, one after another, and the statement that every step keeps them (05 R90; 06 R113; 07 R133;
09 R160; 11 R181). -/

namespace Sys2Proof.Machine

/-! ### Consecutive sequence numbers -/

theorem sequenceRun_succ (next : Half) (n : Nat) :
    sequenceRun (next + 1) (n + 1) = sequenceRun next n ++ [next] := by
  unfold sequenceRun
  rw [List.range_succ, List.map_append]
  congr 1
  · refine List.map_congr_left fun i hi => ?_
    have hle : n + 1 - i = (n - i) + 1 := by
      have := List.mem_range.mp hi
      omega
    rw [hle, BitVec.ofNat_add]
    bv_omega
  · simp

theorem sequenceRun_tail (next : Half) (n : Nat) : (sequenceRun next n).drop 1 = sequenceRun next (n - 1) := by
  cases n with
  | zero => rfl
  | succ n =>
    unfold sequenceRun
    rw [List.range_succ_eq_map]
    simp only [List.map_cons, List.drop_one, List.tail_cons, List.map_map, Nat.add_sub_cancel]
    refine List.map_congr_left fun i _ => ?_
    simp only [Function.comp, Nat.succ_eq_add_one]
    congr 2
    omega

theorem sequenceRun_drop (next : Half) (n k : Nat) : (sequenceRun next n).drop k = sequenceRun next (n - k) := by
  induction k generalizing n with
  | zero => rfl
  | succ k ih => rw [Nat.add_comm, ← List.drop_drop, sequenceRun_tail, ih, Nat.sub_sub, Nat.add_comm]

/-- A result queue within its capacities, its records carrying consecutive sequence numbers (07 R133). -/
def ResultQueue.lawful (q : ResultQueue) : Prop :=
  (q.records.length ≤ 32 ∧ q.overflow ≤ 65535) ∧ q.records.map (·.sequence) = sequenceRun q.nextSequence q.records.length

theorem enqueue_sequences (policy : OverflowPolicy) (r : ResultRecord) (q : ResultQueue)
    (hs : q.records.map (·.sequence) = sequenceRun q.nextSequence q.records.length) :
    (enqueue policy r q).records.map (·.sequence)
      = sequenceRun (enqueue policy r q).nextSequence (enqueue policy r q).records.length := by
  unfold enqueue
  split
  · dsimp only
    rw [List.map_append, hs, List.length_append, List.length_singleton, sequenceRun_succ]
    rfl
  · next hfull =>
    cases policy with
    | dropNewest => exact hs
    | overwriteOldest =>
      dsimp only
      rw [List.map_append, List.map_drop, hs, sequenceRun_tail, List.length_append, List.length_drop, List.length_singleton,
        sequenceRun_succ]
      rfl

theorem ResultQueue.lawful_enqueue (policy : OverflowPolicy) (r : ResultRecord) {q : ResultQueue} (h : q.lawful) :
    (enqueue policy r q).lawful := by
  obtain ⟨⟨hlength, hoverflow⟩, hsequence⟩ := h
  exact ⟨⟨enqueue_length policy r q hlength, enqueue_overflow policy r q hoverflow⟩, enqueue_sequences policy r q hsequence⟩

theorem ResultQueue.lawful_offered (os : List (OverflowPolicy × ResultRecord)) {q : ResultQueue} (h : q.lawful) :
    (os.foldl (fun q o => enqueue o.1 o.2 q) q).lawful := by
  induction os generalizing q with
  | nil => exact h
  | cons o os ih => exact ih (ResultQueue.lawful_enqueue o.1 o.2 h)

theorem ResultQueue.lawful_empty (next : Half) : (ResultQueue.mk [] next 0).lawful :=
  ⟨⟨Nat.zero_le _, Nat.zero_le _⟩, rfl⟩

theorem ResultQueue.lawful_fetched (n : Nat) {q : ResultQueue} (h : q.lawful) :
    ({ q with records := q.records.drop n, overflow := 0 } : ResultQueue).lawful := by
  obtain ⟨⟨hlength, -⟩, hsequence⟩ := h
  refine ⟨⟨?_, Nat.zero_le _⟩, ?_⟩
  · rw [List.length_drop]
    omega
  · dsimp only
    rw [List.map_drop, hsequence, sequenceRun_drop, List.length_drop]

/-- An event queue within its capacities (09 R160). -/
def EventQueue.lawful (q : EventQueue) : Prop := q.records.length ≤ 16 ∧ q.lost ≤ 255

theorem EventQueue.lawful_offered (es : List EventRecord) {q : EventQueue} (h : q.lawful) :
    (es.foldl (fun q e => enqueueEvent e q) q).lawful := by
  induction es generalizing q with
  | nil => exact h
  | cons e es ih => exact ih ⟨enqueueEvent_length e q h.1, enqueueEvent_lost e q h.2⟩

theorem EventQueue.lawful_empty : (EventQueue.mk [] 0).lawful := ⟨Nat.zero_le _, Nat.zero_le _⟩

section QueueLaws

variable {s t : State}

/-- Every queue of results and of events is lawful. -/
def recordsLawful (s : State) : Prop := ∀ p : Port, (look s.results p).lawful ∧ (look s.events p).lawful

theorem QueuesGrow.recordsLawful (h : QueuesGrow s t) (hs : recordsLawful s) : recordsLawful t := by
  intro p
  obtain ⟨os, hos, -⟩ := h.results p
  obtain ⟨es, hes, -⟩ := h.events p
  rw [hos, hes]
  exact ⟨ResultQueue.lawful_offered os (hs p).1, EventQueue.lawful_offered es (hs p).2⟩

theorem recordsLawful_put {p : Port} {q : ResultQueue} {e : EventQueue} (hr : t.results = put s.results p q)
    (he : t.events = put s.events p e) (hq : q.lawful) (hv : e.lawful) (hs : recordsLawful s) : recordsLawful t := by
  intro x
  rw [hr, he, look_put, look_put]
  split
  · exact ⟨hq, hv⟩
  · exact hs x

theorem effect_keeps_records (h : Effect s t) (hs : recordsLawful s) : recordsLawful t := by
  have ended {v : State} {p : Port} (hr : t.results = put v.results p { look v.results p with records := [], overflow := 0 })
      (he : t.events = put v.events p { records := [], lost := 0 }) (hv : recordsLawful v) : recordsLawful t :=
    recordsLawful_put hr he (ResultQueue.lawful_empty _) EventQueue.lawful_empty hv
  cases effect_queues h with
  | grow h => exact h.recordsLawful hs
  | reset hr he =>
    intro p
    rw [hr, he]
    exact ⟨by simpa [State.reset] using ResultQueue.lawful_empty 0, by simpa [State.reset] using EventQueue.lawful_empty⟩
  | opened p hr he => exact recordsLawful_put hr he (ResultQueue.lawful_empty _) EventQueue.lawful_empty hs
  | ended p left v hv hr he => exact ended hr he (hv.recordsLawful hs)
  | resultsFetched p n he hr =>
    exact recordsLawful_put (e := look s.events p) hr (by rw [he, put_look]) (ResultQueue.lawful_fetched n (hs p).1)
      (hs p).2 hs
  | eventsFetched p n hr he =>
    refine recordsLawful_put (q := look s.results p) (by rw [hr, put_look]) he (hs p).1 ⟨?_, Nat.zero_le _⟩ hs
    rw [List.length_drop]
    have := (hs p).2.1
    omega

/-! ### Requests and Tags -/

theorem tagsDistinct_shrinks {u : State} (h : Shrinks s u) (hs : tagsDistinct s) : tagsDistinct u := by
  intro p
  obtain ⟨hnodup, hflight⟩ := hs p
  refine ⟨hnodup.sublist ((h.requests p).map _), fun c hc hsession hdiscard e he => ?_⟩
  obtain ⟨d, hd, hcourse, hmark⟩ := h.flight c hc
  have hsource : c.source = d.source := by injection hcourse
  have hsame : c.session = d.session := by injection hcourse
  rw [hsource]
  exact hflight d hd (hsame ▸ hsession) (hmark hdiscard) e ((h.requests p).subset he)

theorem tagsDistinct_arbitrate (hs : tagsDistinct s) : tagsDistinct (arbitrate s) := by
  rcases arbitrate_cases s with ht | ⟨-, -, ⟨a, -, -, ht⟩ | ⟨p, e, rest, hq, -, -, ht⟩⟩
  · rwa [ht]
  · rw [ht]
    intro x
    refine ⟨(hs x).1, fun c hc _ _ e _ => ?_⟩
    cases hc
    nofun
  · rw [ht]
    intro x
    have hrequests : look (grantRequest p e rest s).requests x = if p = x then rest else look s.requests x :=
      look_put _ _ _ _
    rw [hrequests]
    have hp := (hs p).1
    rw [hq, List.map_cons, List.nodup_cons] at hp
    split
    · next hx =>
      refine ⟨hp.2, fun c hc _ _ f hf => ?_⟩
      cases hc
      intro he
      exact hp.1 (List.mem_map.mpr ⟨f, hf, (Source.request.inj he).symm⟩)
    · next hx =>
      refine ⟨(hs x).1, fun c hc hsession => ?_⟩
      cases hc
      exact absurd hsession hx

theorem tagsDistinct_arbitrateIf (b : Bool) (hs : tagsDistinct s) : tagsDistinct (arbitrateIf b s) := by
  cases b
  · exact hs
  · exact tagsDistinct_arbitrate hs

/-- A SUBMIT of a Tag that is not in use leaves the Tags distinct (06 R114, R116). -/
theorem tagsDistinct_joined {p : Port} {e : RequestEntry} (ht : tagInUse s p e.tag = false) (hs : tagsDistinct s) :
    tagsDistinct (setRequests p (look s.requests p ++ [e]) s) := by
  obtain ⟨hqueued, hflying⟩ := Bool.or_eq_false_iff.mp ht
  intro x
  rw [setRequests_requests, look_put]
  split
  · next hx =>
    subst hx
    obtain ⟨hnodup, hflight⟩ := hs p
    have hnew : ∀ f ∈ look s.requests p, f.tag ≠ e.tag := by simpa [tagQueued] using hqueued
    refine ⟨?_, fun c hc hsession hdiscard f hf => ?_⟩
    · rw [List.map_append, List.nodup_append]
      refine ⟨hnodup, List.nodup_singleton _, fun a ha b hb => ?_⟩
      obtain ⟨f, hf, rfl⟩ := List.mem_map.mp ha
      rw [List.mem_singleton.mp hb]
      exact hnew f hf
    · rcases List.mem_append.mp hf with hf | hf
      · exact hflight c hc hsession hdiscard f hf
      · rw [List.mem_singleton.mp hf]
        intro hsource
        have hc' : s.inFlight = some c := hc
        simp [tagInFlight, hc', hsource, hsession, hdiscard] at hflying
  · exact hs x

theorem effect_keeps_tags (h : Effect s t) (hs : tagsDistinct s) : tagsDistinct t := by
  rcases effect_shrinks h with ⟨b, u, rfl, hu⟩ | ⟨p, e, -, -, ht, rfl⟩
  · exact tagsDistinct_arbitrateIf b (tagsDistinct_shrinks hu hs)
  · exact tagsDistinct_arbitrate (tagsDistinct_joined ht hs)

/-- Every request queue holds at most 8 entries (06 R113). -/
def requestsBounded (s : State) : Prop := ∀ p : Port, (look s.requests p).length ≤ 8

theorem requestsBounded_arbitrate (hs : requestsBounded s) : requestsBounded (arbitrate s) := by
  rcases arbitrate_cases s with ht | ⟨-, -, ⟨a, -, -, ht⟩ | ⟨p, e, rest, hq, -, -, ht⟩⟩
  · rwa [ht]
  · rw [ht]
    exact hs
  · rw [ht]
    intro x
    have hrequests : look (grantRequest p e rest s).requests x = if p = x then rest else look s.requests x :=
      look_put _ _ _ _
    rw [hrequests]
    split
    · have := hs p
      rw [hq, List.length_cons] at this
      omega
    · exact hs x

theorem effect_keeps_requests (h : Effect s t) (hs : requestsBounded s) : requestsBounded t := by
  rcases effect_shrinks h with ⟨b, u, rfl, hu⟩ | ⟨p, e, -, hl, -, rfl⟩
  · have hbounded : requestsBounded u := fun p => (hu.requests p).length_le.trans (hs p)
    cases b
    · exact hbounded
    · exact requestsBounded_arbitrate hbounded
  · refine requestsBounded_arbitrate fun x => ?_
    rw [setRequests_requests, look_put]
    split
    · simpa using hl
    · exact hs x

/-! ### Staging areas and link errors -/

/-- Every staging area holds at most 8 edits (05 R90), and no port has counted more than 65,535 errors (11 R181). -/
def stagingBounded (s : State) : Prop := ∀ p : Port, (look s.staging p).length ≤ 8 ∧ (look s.ports p).linkErrors ≤ 65535

theorem stagingBounded_put {p : Port} {edits : List Edit} (hstaging : t.staging = put s.staging p edits)
    (hports : t.ports = s.ports) (hl : edits.length ≤ 8) (hs : stagingBounded s) : stagingBounded t := by
  intro x
  rw [hstaging, hports, look_put]
  split
  · exact ⟨hl, (hs x).2⟩
  · exact hs x

theorem effect_keeps_staging (h : Effect s t) (hs : stagingBounded s) : stagingBounded t := by
  cases h
  case reset cause =>
    intro p
    exact ⟨by simp [resetBy, State.reset], by simp [resetBy, look_map, LinkPort.reset]⟩
  case opened p a ha hp =>
    intro x
    rw [(opened_fields p a s).2.2.1, (opened_fields p a s).2.2.2.2.2.2.2.2.2.2.2.1, look_put, look_put]
    split
    · next hx =>
      subst hx
      exact ⟨Nat.zero_le _, (hs p).2⟩
    · exact hs x
  case ended p left hp hl => exact stagingBounded_put (p := p) (edits := []) (by simp) (by simp) (Nat.zero_le _) hs
  case staged p e hp hl he => exact stagingBounded_put rfl rfl (by simpa using hl) hs
  case retimed p r hp hr => exact stagingBounded_put rfl rfl (by simpa [withTiming] using (hs p).1) hs
  case stagingCleared p => exact stagingBounded_put (edits := []) rfl rfl (Nat.zero_le _) hs
  case committed p c hp hb hf =>
    rw [commitCopy_state]
    split <;> exact stagingBounded_put (p := p) (edits := []) (by simp) (by simp) (Nat.zero_le _) hs
  all_goals
    intro x
    simpa using hs x

end QueueLaws

/-! ### Every step -/

/-- The laws of the queues. -/
structure QueuesLawful (s : State) : Prop where
  records : recordsLawful s
  requests : requestsBounded s
  staging : ∀ p : Port, (look s.staging p).length ≤ 8
  errors : ∀ p : Port, (look s.ports p).linkErrors ≤ 65535
  tags : tagsDistinct s

theorem queuesLawful_iff (s : State) :
    QueuesLawful s ↔ queuesBounded s ∧ sequencesConsecutive s ∧ tagsDistinct s := by
  constructor
  · rintro ⟨hrecords, hrequests, hstaging, herrors, htags⟩
    refine ⟨fun p => ?_, fun p => (hrecords p).1.2, htags⟩
    obtain ⟨⟨⟨hlength, hoverflow⟩, -⟩, hevents, hlost⟩ := hrecords p
    exact ⟨hlength, hoverflow, hevents, hlost, hrequests p, hstaging p, herrors p⟩
  · rintro ⟨hbounded, hsequences, htags⟩
    refine ⟨fun p => ?_, fun p => ?_, fun p => ?_, fun p => ?_, htags⟩
    all_goals obtain ⟨hlength, hoverflow, hevents, hlost, hrequests, hstaging, herrors⟩ := hbounded p
    · exact ⟨⟨⟨hlength, hoverflow⟩, hsequences p⟩, hevents, hlost⟩
    · exact hrequests
    · exact hstaging
    · exact herrors

section QueueSteps

variable {s t : State}

theorem QueuesLawful.congr (hresults : t.results = s.results) (hevents : t.events = s.events)
    (hrequests : t.requests = s.requests) (hstaging : t.staging = s.staging) (hflight : t.inFlight = s.inFlight)
    (herrors : ∀ p : Port, (look t.ports p).linkErrors ≤ 65535) (h : QueuesLawful s) : QueuesLawful t where
  records p := by
    rw [hresults, hevents]
    exact h.records p
  requests p := by
    rw [hrequests]
    exact h.requests p
  staging p := by
    rw [hstaging]
    exact h.staging p
  errors := herrors
  tags := by
    have htags := h.tags
    unfold tagsDistinct at htags ⊢
    rwa [hrequests, hflight]

theorem sampleSelects_errors (h : ∀ p : Port, (look s.ports p).linkErrors ≤ 65535) (p : Port) :
    (look (sampleSelects s).ports p).linkErrors ≤ 65535 := by
  rw [(sampleSelects_port s p).1]
  split <;> exact h p

/-- A tick leaves the source, the session and the Discard mark of the conversion in flight. -/
theorem tick_keeps_tags (h : tagsDistinct s) : tagsDistinct (tick s) := by
  intro p
  rw [(tick_fields s).2.2.2.2.2.2.2.2.2.2.2.2.1]
  refine ⟨(h p).1, fun c hc => ?_⟩
  obtain ⟨d, x, hd, rfl | ⟨-, rfl⟩⟩ := tick_inFlight s c hc
  · exact (h p).2 c hd
  · exact (h p).2 d hd

theorem tick_keeps_queues (h : QueuesLawful s) : QueuesLawful (tick s) where
  records p := by simpa using h.records p
  requests p := by simpa using h.requests p
  staging p := by simpa using h.staging p
  errors := by
    unfold tick
    exact sampleSelects_errors h.errors
  tags := tick_keeps_tags h.tags

theorem effect_keeps_queues (he : Effect s t) (h : QueuesLawful s) : QueuesLawful t := by
  have hstaging := effect_keeps_staging he fun p => ⟨h.staging p, h.errors p⟩
  exact ⟨effect_keeps_records he h.records, effect_keeps_requests he h.requests, fun p => (hstaging p).1,
    fun p => (hstaging p).2, effect_keeps_tags he h.tags⟩

end QueueSteps

/-- Settles O56: the laws of the queues together are kept by every effect, by a tick, and outside the blocks. -/
theorem stepKeepsQueuesLawful : Obligations.StepKeepsQueuesLawful := by
  intro s t hbounded hsequences htags hstep
  rw [← queuesLawful_iff]
  exact step_keeps (P := QueuesLawful)
    (fun s _ _ h => h.congr (s := s) rfl rfl rfl rfl rfl h.errors)
    (fun s t ho h => h.congr (by rw [ho.blocks]) (by rw [ho.blocks]) (by rw [ho.blocks]) (by rw [ho.blocks])
      (by rw [ho.blocks]) (ho.errors h.errors))
    (fun _ _ => effect_keeps_queues)
    (fun s h => h.congr (by simp) (by simp) (by simp) (by simp) (by simp) (sampleSelects_errors h.errors))
    (fun _ _ => tick_keeps_queues) ((queuesLawful_iff s).mpr ⟨hbounded, hsequences, htags⟩) hstep

end Sys2Proof.Machine

/-! The plans stay feasible under their timings, and each slot id stays free, reserved once, or the name of one slot (05 R85,
R87, R89). -/

namespace Sys2Proof.Machine

/-! ### Feasibility -/

section Feasibility

variable {timing : Timing} {slots : List Slot}

/-- A plan in phase order is feasible exactly when no slot overlaps a later one and each lies within the limit and the frame
(05 R87): a later slot never ends before an earlier one. -/
theorem feasible_iff_pairwise :
    feasible timing slots = true
      ↔ slots.Pairwise (fun x y => x.ends ≤ y.phase)
        ∧ (∀ x ∈ slots, x.ends ≤ timing.limit ∧ x.phase < timing.frameLength) ∧ timing.window ≤ timing.frameLength / 8 := by
  have hchain : followsOn slots = true ↔ slots.Pairwise fun x y => x.ends ≤ y.phase := by
    rw [followsOn_iff_isChain]
    refine ⟨fun h => ?_, List.Pairwise.isChain⟩
    have htrans : ∀ {x y z : Slot}, x.ends ≤ y.phase → y.ends ≤ z.phase → x.ends ≤ z.phase := fun hxy hyz =>
      hxy.trans ((Nat.le_add_right _ _).trans hyz)
    exact @List.IsChain.pairwise _ _ _ ⟨htrans⟩ h
  unfold feasible
  simp only [Bool.and_eq_true, decide_eq_true_eq, List.all_eq_true, hchain]
  constructor
  · rintro ⟨⟨⟨hpairs, hlast⟩, hframe⟩, hwindow⟩
    refine ⟨hpairs, fun x hx => ⟨?_, hframe x hx⟩, hwindow⟩
    obtain ⟨l, hl⟩ : ∃ l, slots.getLast? = some l := List.getLast?_isSome.mpr (List.ne_nil_of_mem hx) |> Option.isSome_iff_exists.mp
    rw [hl] at hlast
    have hle : l.ends ≤ timing.limit := by simpa using hlast
    obtain ⟨before, rfl⟩ := List.getLast?_eq_some_iff.mp hl
    rcases List.mem_append.mp hx with hx | hx
    · have := (List.pairwise_append.mp hpairs).2.2 x hx l (List.mem_singleton_self l)
      exact this.trans ((Nat.le_add_right _ _).trans hle)
    · rwa [List.mem_singleton.mp hx]
  · rintro ⟨hpairs, hall, hwindow⟩
    refine ⟨⟨⟨hpairs, ?_⟩, fun x hx => (hall x hx).2⟩, hwindow⟩
    split
    · next l hl => simpa using (hall l (List.mem_of_getLast? hl)).1
    · rfl

/-- Slots leave a feasible plan feasible (10 R177). -/
theorem feasible_filter (f : Slot → Bool) (h : feasible timing slots = true) :
    feasible timing (slots.filter f) = true := by
  obtain ⟨hpairs, hall, hwindow⟩ := feasible_iff_pairwise.mp h
  exact feasible_iff_pairwise.mpr ⟨hpairs.filter f, fun x hx => hall x (List.mem_of_mem_filter hx), hwindow⟩

end Feasibility

section PlanLaws

variable {s t : State}

/-- The slots of an active plan. -/
def slotsOf (plan : List ActiveSlot) : List Slot := plan.map (·.slot)

theorem slotsOf_outline (plan : List ActiveSlot) : slotsOf plan = (outline plan).map Prod.fst := by
  unfold slotsOf outline
  rw [List.map_map]
  rfl

theorem slotsOf_congr {p q : List ActiveSlot} (h : outline p = outline q) : slotsOf p = slotsOf q := by
  rw [slotsOf_outline, slotsOf_outline, h]

theorem slotsOf_fresh {plan : List ActiveSlot} {slots : List Slot} (h : outline plan = slots.map fun x => (x, false)) :
    slotsOf plan = slots := by
  rw [slotsOf_outline, h, List.map_map]
  exact List.map_id slots

theorem endSession_slots (p : Port) (left : SessionState) (s : State) :
    slotsOf (endSession p left s).activePlan = slotsOf s.activePlan := by
  rw [slotsOf_outline, endSession_outline, ← slotsOf_outline]
  unfold slotsOf
  rw [List.map_map]
  refine List.map_congr_left fun a _ => ?_
  dsimp only [Function.comp]
  split <;> rfl

theorem plansFeasible_congr (hnext : t.nextPlan = s.nextPlan) (hnextTiming : t.nextTiming = s.nextTiming)
    (hactive : slotsOf t.activePlan = slotsOf s.activePlan) (hactiveTiming : t.activeTiming = s.activeTiming)
    (h : plansFeasible s) : plansFeasible t := by
  unfold plansFeasible at h ⊢
  unfold slotsOf at hactive
  rwa [hnext, hnextTiming, hactive, hactiveTiming]

theorem effect_keeps_feasible (h : Effect s t) (hs : plansFeasible s) : plansFeasible t := by
  obtain ⟨hnext, hactive⟩ := id hs
  cases h
  case reset cause =>
    have hempty : feasible Timing.reset [] = true := by decide
    exact ⟨hempty, hempty⟩
  case ended p left hp hl =>
    have hslots := endSession_slots p left s
    unfold slotsOf at hslots
    refine ⟨?_, ?_⟩
    · simpa using feasible_filter (fun sl => sl.owner != p) hnext
    · simpa [hslots] using hactive
  case boundary o hr hm =>
    have hslots := slotsOf_fresh (takeBoundary_outline s o)
    unfold slotsOf at hslots
    exact ⟨by simpa using hnext, by simpa [hslots] using hnext⟩
  case committed p c hp hb hf =>
    rw [commitCopy_state]
    split
    · have hslots : slotsOf (arbitrate (setNoted p true (installCopy p c s))).activePlan = slotsOf s.activePlan :=
        slotsOf_congr (by simp)
      unfold slotsOf at hslots
      exact ⟨by simpa using hf, by simpa [hslots] using hactive⟩
    · have hslots := slotsOf_fresh (immediateApply_outline (installCopy p c s))
      unfold slotsOf at hslots
      exact ⟨by simpa using hf, by simpa [hslots] using hf⟩
  all_goals exact plansFeasible_congr (by simp) (by simp) (slotsOf_congr (by simp)) (by simp) hs

/-! ### The pool of slot ids -/

/-- The ids of some slots. -/
def idsOf (slots : List Slot) : List SlotId := slots.map (·.id)

/-- Each id is free, in one plan list once, or reserved once, and no reserved id stands in a plan (05 R89). -/
structure IdPool (next active : List SlotId) (reserved : Port → List SlotId) : Prop where
  nextOnce : next.Nodup
  activeOnce : active.Nodup
  reservedOnce : ∀ p, (reserved p).Nodup
  areas : ∀ p q, p ≠ q → ∀ id ∈ reserved p, id ∉ reserved q
  free : ∀ p, ∀ id ∈ reserved p, id ∉ next ∧ id ∉ active

/-- The ids that a session has reserved (05 R89). -/
def reservedBy (s : State) (p : Port) : List SlotId := reservedIds (look s.staging p)

theorem inNext_iff {id : SlotId} : inNext s id = true ↔ id ∈ idsOf s.nextPlan := by
  simp [inNext, idsOf]

theorem inActive_iff {id : SlotId} : inActive s id = true ↔ id ∈ idsOf (slotsOf s.activePlan) := by
  simp [inActive, idsOf, slotsOf]

theorem idPoolLawful_iff (s : State) :
    idPoolLawful s ↔ IdPool (idsOf s.nextPlan) (idsOf (slotsOf s.activePlan)) (reservedBy s) := by
  have hactive : (s.activePlan.map fun a => a.slot.id) = idsOf (slotsOf s.activePlan) := by
    unfold idsOf slotsOf
    rw [List.map_map]
    rfl
  have hmem : ∀ id, id ∈ allReserved s ↔ ∃ p, id ∈ reservedBy s p := by
    intro id
    simp [allReserved, reservedBy, mem_allPorts]
  have hnodup : (allReserved s).Nodup
      ↔ (∀ p, (reservedBy s p).Nodup) ∧ ∀ p q, p ≠ q → ∀ id ∈ reservedBy s p, id ∉ reservedBy s q := by
    unfold allReserved
    rw [List.nodup_flatMap]
    refine and_congr ⟨fun h p => h p (mem_allPorts p), fun h p _ => h p⟩ ⟨fun h p q hpq id hp hq => ?_, fun h => ?_⟩
    · exact @List.Pairwise.forall _ _ _ ⟨fun _ _ hd => hd.symm⟩ h p (mem_allPorts p) q (mem_allPorts q) hpq id hp hq
    · exact nodup_allPorts.imp fun {p q} hpq id hp hq => h p q hpq id hp hq
  unfold idPoolLawful
  rw [hactive, hnodup]
  constructor
  · rintro ⟨hnext, hact, ⟨hres, hareas⟩, hfree⟩
    refine ⟨hnext, hact, hres, hareas, fun p id hid => ?_⟩
    have := hfree id ((hmem id).mpr ⟨p, hid⟩)
    rwa [← Bool.not_eq_true, ← Bool.not_eq_true, inNext_iff, inActive_iff] at this
  · rintro ⟨hnext, hact, hres, hareas, hfree⟩
    refine ⟨hnext, hact, ⟨hres, hareas⟩, fun id hid => ?_⟩
    obtain ⟨p, hp⟩ := (hmem id).mp hid
    rw [← Bool.not_eq_true, ← Bool.not_eq_true, inNext_iff, inActive_iff]
    exact hfree p id hp

section Pools

variable {next next' active active' : List SlotId} {reserved reserved' : Port → List SlotId}

/-- Ids that leave the plans and the staging areas become free. -/
theorem IdPool.sublist (h : IdPool next active reserved) (hnext : next'.Sublist next) (hactive : active'.Sublist active)
    (hreserved : ∀ p, (reserved' p).Sublist (reserved p)) : IdPool next' active' reserved' where
  nextOnce := h.nextOnce.sublist hnext
  activeOnce := h.activeOnce.sublist hactive
  reservedOnce p := (h.reservedOnce p).sublist (hreserved p)
  areas p q hpq id hp hq := h.areas p q hpq id ((hreserved p).subset hp) ((hreserved q).subset hq)
  free p id hp := (h.free p id ((hreserved p).subset hp)).imp (fun h hn => h (hnext.subset hn))
    fun h ha => h (hactive.subset ha)

/-- The next plan made active. -/
theorem IdPool.applied (h : IdPool next active reserved) : IdPool next next reserved where
  nextOnce := h.nextOnce
  activeOnce := h.nextOnce
  reservedOnce := h.reservedOnce
  areas := h.areas
  free p id hp := ⟨(h.free p id hp).1, (h.free p id hp).1⟩

/-- A free id reserved by one session. -/
theorem IdPool.reserve (h : IdPool next active reserved) {p : Port} {id : SlotId} (hnext : id ∉ next)
    (hactive : id ∉ active) (hfree : ∀ q, id ∉ reserved q)
    (hreserved : ∀ q, reserved' q = if p = q then reserved q ++ [id] else reserved q) : IdPool next active reserved' := by
  have hmem : ∀ q x, x ∈ reserved' q ↔ x ∈ reserved q ∨ (p = q ∧ x = id) := by
    intro q x
    rw [hreserved]
    by_cases hq : p = q <;> simp [hq]
  refine ⟨h.nextOnce, h.activeOnce, fun q => ?_, fun q r hqr x hq hr => ?_, fun q x hq => ?_⟩
  · rw [hreserved]
    split
    · exact List.nodup_append.mpr ⟨h.reservedOnce q, List.nodup_singleton id, fun a ha b hb => by
        rw [List.mem_singleton.mp hb]
        exact ne_of_mem_of_not_mem ha (hfree q)⟩
    · exact h.reservedOnce q
  · rcases (hmem q x).mp hq with hq | ⟨rfl, rfl⟩
    · rcases (hmem r x).mp hr with hr | ⟨rfl, rfl⟩
      · exact h.areas q r hqr x hq hr
      · exact hfree q hq
    · rcases (hmem r x).mp hr with hr | ⟨rfl, -⟩
      · exact hfree r hr
      · exact hqr rfl
  · rcases (hmem q x).mp hq with hq | ⟨-, rfl⟩
    · exact h.free q x hq
    · exact ⟨hnext, hactive⟩

/-- A copy that takes its ids from the next plan and from the session's own reservations, which end (05 R89, R98). -/
theorem IdPool.committed (h : IdPool next active reserved) {p : Port} (hnodup : next'.Nodup)
    (hfrom : ∀ id ∈ next', id ∈ next ∨ id ∈ reserved p)
    (hreserved : ∀ q, reserved' q = if p = q then [] else reserved q) : IdPool next' active reserved' := by
  have hsub : ∀ q, (reserved' q).Sublist (reserved q) := by
    intro q
    rw [hreserved]
    split
    · exact List.nil_sublist _
    · exact List.Sublist.refl _
  have hkept := h.sublist (List.Sublist.refl next) (List.Sublist.refl active) hsub
  refine ⟨hnodup, h.activeOnce, hkept.reservedOnce, hkept.areas, fun q id hq => ⟨fun hn => ?_, (hkept.free q id hq).2⟩⟩
  rcases hfrom id hn with hn | hn
  · exact (hkept.free q id hq).1 hn
  · rw [hreserved] at hq
    split at hq
    · cases hq
    · next hne => exact h.areas p q hne id hn hq

end Pools

/-! ### The ids of a copy -/

theorem reservedIds_cons (e : Edit) (es : List Edit) :
    reservedIds (e :: es) = (match e with | .add sl => [sl.id] | .move _ _ | .drop _ | .timing _ => []) ++ reservedIds es := by
  cases e <;> rfl

/-- Editing a copy leaves its ids distinct, each from the copy before or from an ADD (05 R89, R96). -/
theorem applyEdits_ids {p : Port} {edits : List Edit} {i : Nat} {c d : PlanCopy} (h : applyEdits s p i edits c = .ok d)
    (hnodup : (idsOf c.slots).Nodup) (hreserved : (reservedIds edits).Nodup)
    (hdisjoint : ∀ id ∈ reservedIds edits, id ∉ idsOf c.slots) :
    (idsOf d.slots).Nodup ∧ ∀ id ∈ idsOf d.slots, id ∈ idsOf c.slots ∨ id ∈ reservedIds edits := by
  induction edits generalizing i c with
  | nil =>
    cases h
    exact ⟨hnodup, fun id hid => .inl hid⟩
  | cons e es ih =>
    unfold applyEdits at h
    split at h
    · next b hb =>
      cases e with
      | add sl =>
        obtain ⟨-, rfl⟩ := applyEdit_add.mp hb
        rw [reservedIds_cons] at hreserved hdisjoint ⊢
        obtain ⟨hnew, hrest⟩ := List.nodup_cons.mp hreserved
        have hids : idsOf (c.slots ++ [{ sl with owner := p }]) = idsOf c.slots ++ [sl.id] := by simp [idsOf]
        have hfresh := hdisjoint sl.id List.mem_cons_self
        obtain ⟨hn, hfrom⟩ := ih h
          (by
            rw [hids]
            exact List.nodup_append.mpr ⟨hnodup, List.nodup_singleton _, fun a ha b hb => by
              rw [List.mem_singleton.mp hb]
              exact ne_of_mem_of_not_mem ha hfresh⟩)
          hrest
          (fun id hid hm => by
            rw [hids] at hm
            rcases List.mem_append.mp hm with hm | hm
            · exact hdisjoint id (List.mem_cons_of_mem _ hid) hm
            · exact hnew (List.mem_singleton.mp hm ▸ hid))
        refine ⟨hn, fun id hid => ?_⟩
        rcases hfrom id hid with hid | hid
        · rw [hids] at hid
          rcases List.mem_append.mp hid with hid | hid
          · exact .inl hid
          · exact .inr (by rw [List.mem_singleton.mp hid]; exact List.mem_cons_self)
        · exact .inr (List.mem_cons_of_mem _ hid)
      | move id phase =>
        obtain ⟨sl, -, -, rfl⟩ := applyEdit_move.mp hb
        have hids : idsOf (c.slots.map fun x => if x.id = id then { x with phase := phase } else x) = idsOf c.slots := by
          unfold idsOf
          rw [List.map_map]
          refine List.map_congr_left fun x _ => ?_
          dsimp only [Function.comp]
          split <;> rfl
        have hrest := ih h (by rwa [hids]) hreserved (by rwa [hids])
        rw [hids] at hrest
        exact hrest
      | drop id =>
        obtain ⟨sl, -, -, rfl⟩ := applyEdit_drop.mp hb
        have hsub : (idsOf (c.slots.filter fun x => x.id != id)).Sublist (idsOf c.slots) := List.filter_sublist.map _
        obtain ⟨hn, hfrom⟩ := ih h (hnodup.sublist hsub) hreserved fun x hx hm => hdisjoint x hx (hsub.subset hm)
        exact ⟨hn, fun x hx => (hfrom x hx).imp_left fun hx => hsub.subset hx⟩
      | timing r =>
        obtain ⟨-, rfl⟩ := applyEdit_timing_edit.mp hb
        exact ih (c := { c with timing := r }) h hnodup hreserved hdisjoint
    · cases h

theorem buildCopy_ids {p : Port} {c : PlanCopy} (h : buildCopy s p = .ok c) (hs : idPoolLawful s) :
    (idsOf c.slots).Nodup ∧ ∀ id ∈ idsOf c.slots, id ∈ idsOf s.nextPlan ∨ id ∈ reservedBy s p := by
  obtain ⟨d, hd, rfl⟩ := buildCopy_ok h
  have hpool := (idPoolLawful_iff s).mp hs
  obtain ⟨hnodup, hfrom⟩ := applyEdits_ids hd hpool.nextOnce (hpool.reservedOnce p) fun id hid => (hpool.free p id hid).1
  have hperm : (idsOf (inPhaseOrder d.slots)).Perm (idsOf d.slots) := (inPhaseOrder_perm d.slots).map _
  exact ⟨hperm.nodup_iff.mpr hnodup, fun id hid => hfrom id (hperm.mem_iff.mp hid)⟩

/-! ### What an effect does to the pool -/

theorem reservedIds_append (es fs : List Edit) : reservedIds (es ++ fs) = reservedIds es ++ reservedIds fs :=
  List.filterMap_append

theorem reservedIds_withTiming (r : Timing) (es : List Edit) : reservedIds (withTiming r es) = reservedIds es := by
  unfold withTiming reservedIds
  rw [List.filterMap_map]
  congr 1
  funext e
  cases e <;> rfl

theorem reservedBy_put {p : Port} {edits : List Edit} (h : t.staging = put s.staging p edits) (q : Port) :
    reservedBy t q = if p = q then reservedIds edits else reservedBy s q := by
  unfold reservedBy
  rw [h, look_put]
  split <;> rfl

theorem reservedBy_congr (h : t.staging = s.staging) : reservedBy t = reservedBy s := by
  unfold reservedBy
  rw [h]

theorem idPoolLawful_congr (hnext : t.nextPlan = s.nextPlan) (hactive : slotsOf t.activePlan = slotsOf s.activePlan)
    (hstaging : t.staging = s.staging) (h : idPoolLawful s) : idPoolLawful t := by
  rw [idPoolLawful_iff] at h ⊢
  rwa [hnext, hactive, reservedBy_congr hstaging]

/-- A staging area that is emptied frees its ids. -/
theorem idPoolLawful_cleared {p : Port} (hnext : (idsOf t.nextPlan).Sublist (idsOf s.nextPlan))
    (hactive : slotsOf t.activePlan = slotsOf s.activePlan) (hstaging : t.staging = put s.staging p [])
    (h : idPoolLawful s) : idPoolLawful t := by
  rw [idPoolLawful_iff] at h ⊢
  refine h.sublist hnext (by rw [hactive]) fun q => ?_
  rw [reservedBy_put hstaging]
  split
  · exact List.nil_sublist _
  · exact List.Sublist.refl _

theorem isFreeId_iff {id : SlotId} :
    isFreeId s id = true
      ↔ (∀ q, id ∉ reservedBy s q) ∧ id ∉ idsOf s.nextPlan ∧ id ∉ idsOf (slotsOf s.activePlan) := by
  have hreserved : isReserved s id = true ↔ ∃ q, id ∈ reservedBy s q := by
    simp [isReserved, reservedBy, mem_allPorts]
  rw [← inNext_iff, ← inActive_iff, ← not_exists, ← hreserved]
  simp [isFreeId, and_assoc]

theorem effect_keeps_ids (h : Effect s t) (hs : idPoolLawful s) : idPoolLawful t := by
  have hpool := (idPoolLawful_iff s).mp hs
  cases h
  case reset cause =>
    refine (idPoolLawful_iff _).mpr (hpool.sublist (List.nil_sublist _) (List.nil_sublist _) fun p => ?_)
    have : reservedBy (resetBy cause s) p = [] := by simp [reservedBy, resetBy, State.reset, reservedIds]
    rw [this]
    exact List.nil_sublist _
  case opened p a ha hp => exact idPoolLawful_cleared (p := p) (by simp) (by simp) (by simp) hs
  case ended p left hp hl =>
    refine idPoolLawful_cleared (p := p) ?_ (endSession_slots p left s) (by simp) hs
    rw [(endSession_fields p left s).2.2.2.2.2.2.2.2.2.2]
    exact List.filter_sublist.map _
  case stagingCleared p => exact idPoolLawful_cleared (s := s) (p := p) (List.Sublist.refl _) rfl rfl hs
  case staged p e hp hl he =>
    rw [idPoolLawful_iff]
    have hstaging : (setStaging p (look s.staging p ++ [e]) s).staging = put s.staging p (look s.staging p ++ [e]) := rfl
    have happended : reservedIds (look s.staging p ++ [e]) = reservedBy s p ++ reservedIds [e] :=
      reservedIds_append _ _
    cases e with
    | add sl =>
      obtain ⟨hreserved, hnext, hactive⟩ := isFreeId_iff.mp he
      refine hpool.reserve (p := p) hnext hactive hreserved fun q => ?_
      rw [reservedBy_put hstaging, happended]
      split
      · next hq => rw [hq]; rfl
      · rfl
    | move | drop | timing =>
      refine hpool.sublist (List.Sublist.refl _) (List.Sublist.refl _) fun q => ?_
      rw [reservedBy_put hstaging, happended]
      split
      · next hq =>
        rw [← hq, show reservedIds _ = [] from rfl, List.append_nil]
      · exact List.Sublist.refl _
  case retimed p r hp hr =>
    rw [idPoolLawful_iff]
    refine hpool.sublist (List.Sublist.refl _) (List.Sublist.refl _) fun q => ?_
    rw [reservedBy_put (p := p) (edits := withTiming r (look s.staging p)) rfl, reservedIds_withTiming]
    split
    · next hq =>
      subst hq
      exact List.Sublist.refl _
    · exact List.Sublist.refl _
  case boundary o hr hm =>
    rw [idPoolLawful_iff, slotsOf_fresh (takeBoundary_outline s o), (takeBoundary_fields o s).2.2.2.2.2.2.2.1,
      reservedBy_congr (takeBoundary_fields o s).2.2.2.2.2.2.2.2]
    exact hpool.applied
  case committed p c hp hb hf =>
    obtain ⟨hnodup, hfrom⟩ := buildCopy_ids hb hs
    have hcopied := hpool.committed hnodup hfrom fun q =>
      reservedBy_put (s := s) (t := installCopy p c s) (p := p) (edits := []) (by simp) q
    rw [commitCopy_state]
    split
    · rw [idPoolLawful_iff, slotsOf_congr (q := s.activePlan) (by simp), reservedBy_congr (s := installCopy p c s) (by simp)]
      simpa using hcopied
    · rw [idPoolLawful_iff, slotsOf_fresh (immediateApply_outline _), reservedBy_congr (s := installCopy p c s) (by simp)]
      simpa using hcopied.applied
  all_goals exact idPoolLawful_congr (by simp) (slotsOf_congr (by simp)) (by simp) hs

end PlanLaws

/-- Settles O59: feasibility and the pool of ids are kept by every effect, and nothing else touches the plans. -/
theorem stepKeepsPlansLawful : Obligations.StepKeepsPlansLawful := by
  intro s t hfeasible hids hstep
  refine step_keeps (P := fun s => plansFeasible s ∧ idPoolLawful s) (fun _ _ _ h => h) (fun s t ho h => ?_)
    (fun _ _ he h => ⟨effect_keeps_feasible he h.1, effect_keeps_ids he h.2⟩) (fun s h => ?_) (fun s _ h => ?_)
    ⟨hfeasible, hids⟩ hstep
  · rw [ho.blocks]
    exact h
  · exact ⟨plansFeasible_congr (by simp) (by simp) (by simp) (by simp) h.1, idPoolLawful_congr (by simp) (by simp) (by simp) h.2⟩
  · exact ⟨plansFeasible_congr (by simp) (by simp) (by simp) (by simp) h.1, idPoolLawful_congr (by simp) (by simp) (by simp) h.2⟩

end Sys2Proof.Machine

/-! A session that is not OPEN holds nothing, and no slot has two monitors (08 R146, 10 R177). -/

namespace Sys2Proof.Machine

section Ended

variable {s t : State} {p : Port}

/-! ### Sessions -/

/-- A session that is not OPEN after an effect was not OPEN before it, or the effect ended it, or reset the hub. -/
theorem effect_closed (h : Effect s t) (ht : isOpen t p = false) :
    isOpen s p = false ∨ (∃ left, t = endSession p left s) ∨ ∃ cause, t = resetBy cause s := by
  have same (hsessions : t.sessions = s.sessions) : isOpen s p = false := by
    rwa [← QueuesGrow.isOpen_congr hsessions]
  cases h
  case reset cause => exact .inr (.inr ⟨cause, rfl⟩)
  case opened q a ha hq =>
    by_cases hp : q = p
    · exact .inl (hp ▸ hq)
    · refine .inl ?_
      unfold isOpen at ht ⊢
      rwa [(opened_fields q a s).2.2.2.1, look_put_other _ (Ne.symm hp)] at ht
  case ended q left hq hl =>
    by_cases hp : q = p
    · exact .inr (.inl ⟨left, hp ▸ rfl⟩)
    · refine .inl ?_
      unfold isOpen at ht ⊢
      rwa [(endSession_fields q left s).2.2.2.1, look_put_other _ (Ne.symm hp)] at ht
  case renewed q l hx =>
    by_cases hp : q = p
    · rw [isOpen_setSession, if_pos hp] at ht
      cases ht
    · rw [isOpen_setSession, if_neg hp] at ht
      exact .inl ht
  case fallen q l os hx =>
    rw [(offerEvents_grow _ os).opened] at ht
    by_cases hp : q = p
    · rw [isOpen_setSession, if_pos hp] at ht
      cases ht
    · rw [isOpen_setSession, if_neg hp] at ht
      exact .inl ht
  case committed q c hq hb hf =>
    refine .inl (same ?_)
    rw [commitCopy_state]
    split <;> simp
  all_goals exact .inl (same (by simp))

theorem ne_of_open {q : Port} (hp : isOpen s p = false) (hq : isOpen s q = true) : q ≠ p := by
  rintro rfl
  rw [hp] at hq
  cases hq

/-! ### Queues, notes and staging areas -/

/-- The session holds no queued request, record or event. -/
def queuesEmpty (s : State) (p : Port) : Prop :=
  look s.requests p = [] ∧ (look s.results p).records = [] ∧ (look s.events p).records = []

theorem arbitrate_requests (s : State) (x : Port) : (look (arbitrate s).requests x).Sublist (look s.requests x) := by
  rcases arbitrate_cases s with ht | ⟨-, -, ⟨a, -, -, ht⟩ | ⟨q, e, rest, hq, -, -, ht⟩⟩
  · rw [ht]
  · rw [ht]
    exact List.Sublist.refl _
  · rw [ht]
    have hrequests : look (grantRequest q e rest s).requests x = if q = x then rest else look s.requests x :=
      look_put _ _ _ _
    rw [hrequests]
    split
    · next hx =>
      rw [← hx, hq]
      exact List.sublist_cons_self e rest
    · exact List.Sublist.refl _

theorem arbitrateIf_requests (b : Bool) (s : State) (x : Port) :
    (look (arbitrateIf b s).requests x).Sublist (look s.requests x) := by
  cases b
  · exact List.Sublist.refl _
  · exact arbitrate_requests s x

theorem effect_requests_empty (h : Effect s t) (hp : isOpen s p = false) (hs : look s.requests p = []) :
    look t.requests p = [] := by
  rcases effect_shrinks h with ⟨b, u, rfl, hu⟩ | ⟨q, e, hq, -, -, rfl⟩
  · exact List.sublist_nil.mp (hs ▸ (arbitrateIf_requests b u p).trans (hu.requests p))
  · have hjoined := arbitrate_requests (setRequests q (look s.requests q ++ [e]) s) p
    rw [setRequests_requests, look_put_other _ (ne_of_open hp hq).symm, hs] at hjoined
    exact List.sublist_nil.mp hjoined

theorem QueuesGrow.closed (h : QueuesGrow s t) (hp : isOpen s p = false) :
    look t.results p = look s.results p ∧ look t.events p = look s.events p := by
  obtain ⟨os, hos, hnone⟩ := h.results p
  obtain ⟨es, hes, hnone'⟩ := h.events p
  rw [hos, hes, hnone hp, hnone' hp]
  exact ⟨rfl, rfl⟩

theorem effect_queuesEmpty (h : Effect s t) (hp : isOpen s p = false) (hs : queuesEmpty s p) : queuesEmpty t p := by
  obtain ⟨hrequests, hresults, hevents⟩ := hs
  refine ⟨effect_requests_empty h hp hrequests, ?_⟩
  cases effect_queues h with
  | grow h =>
    obtain ⟨hr, he⟩ := h.closed hp
    rw [hr, he]
    exact ⟨hresults, hevents⟩
  | reset hr he =>
    rw [hr, he]
    simp [State.reset]
  | opened q hr he =>
    rw [hr, he, look_put, look_put]
    split
    · exact ⟨rfl, rfl⟩
    · exact ⟨hresults, hevents⟩
  | ended q left v hv hr he =>
    rw [hr, he, look_put, look_put]
    split
    · exact ⟨rfl, rfl⟩
    · next hq =>
      obtain ⟨hr', he'⟩ := hv.closed (p := p) (by rwa [isOpen_setSession, if_neg hq])
      rw [hr', he']
      exact ⟨hresults, hevents⟩
  | resultsFetched q n he hr =>
    rw [hr, he, look_put]
    split
    · next hq =>
      subst hq
      simp [hresults, hevents]
    · exact ⟨hresults, hevents⟩
  | eventsFetched q n hr he =>
    rw [hr, he, look_put]
    split
    · next hq =>
      subst hq
      simp [hresults, hevents]
    · exact ⟨hresults, hevents⟩

/-- The session has staged no edit and is not noted. -/
def stagedNothing (s : State) (p : Port) : Prop := look s.staging p = [] ∧ look s.noted p = false

theorem stagedNothing_of (hstaging : look t.staging p = [] ∨ look t.staging p = look s.staging p)
    (hnoted : look t.noted p = false ∨ look t.noted p = look s.noted p) (hs : stagedNothing s p) : stagedNothing t p :=
  ⟨hstaging.elim id fun h => h.trans hs.1, hnoted.elim id fun h => h.trans hs.2⟩

theorem look_put_cleared {α : Type} {n : Nat} (v : Vector α n) (i j : Fin n) (x : α) :
    look (put v i x) j = x ∨ look (put v i x) j = look v j := by
  rw [look_put]
  split
  · exact .inl rfl
  · exact .inr rfl

@[simp] theorem boundaryStage2_noted (ending : Half) (s : State) :
    (boundaryStage2 ending s).noted = Vector.replicate 4 false := by
  simp [boundaryStage2, answerNotes]

@[simp] theorem takeBoundary_noted (o : SyncOutcome) (s : State) :
    (takeBoundary o s).noted = Vector.replicate 4 false := by
  unfold takeBoundary
  dsimp only
  split <;> simp

theorem effect_stagedNothing (h : Effect s t) (hp : isOpen s p = false) (hs : stagedNothing s p) : stagedNothing t p := by
  have other {q : Port} {edits : List Edit} (hq : isOpen s q = true) : look (put s.staging q edits) p = look s.staging p :=
    look_put_other _ (ne_of_open hp hq).symm _
  cases h
  case reset cause => exact ⟨by simp [resetBy, State.reset], by simp [resetBy, State.reset]⟩
  case opened q a ha hq => exact stagedNothing_of (by simpa using look_put_cleared _ _ _ _) (by simp) hs
  case ended q left hq hl =>
    exact stagedNothing_of (by simpa using look_put_cleared _ _ _ _) (by simpa using look_put_cleared _ _ _ _) hs
  case staged q e hq hl he => exact stagedNothing_of (.inr (other hq)) (.inr rfl) hs
  case retimed q r hq hr => exact stagedNothing_of (.inr (other hq)) (.inr rfl) hs
  case stagingCleared q => exact stagedNothing_of (look_put_cleared _ _ _ _) (.inr rfl) hs
  case boundary o hr hm => exact stagedNothing_of (by simp) (by simp) hs
  case committed q c hq hb hf =>
    rw [commitCopy_state]
    split
    · exact stagedNothing_of (.inr (by simpa using other hq))
        (.inr (by simpa using look_put_other _ (ne_of_open hp hq).symm _)) hs
    · exact stagedNothing_of (.inr (by simpa using other hq)) (by simp) hs
  all_goals exact stagedNothing_of (by simp) (by simp) hs

/-! ### Channels and roles -/

/-- The session neither owns the channel nor subscribes to it. -/
def ChannelRec.without (p : Port) (c : ChannelRec) : Prop := c.owner ≠ some p ∧ p ∉ c.subscribers

theorem without_put {v : Vector ChannelRec 14} {i : Channel} {x : ChannelRec} (h : ∀ ch, (look v ch).without p)
    (hx : x.without p) (ch : Channel) : (look (put v i x) ch).without p := by
  rw [look_put]
  split
  · exact hx
  · exact h ch

theorem free_without : ChannelRec.free.without p := ⟨nofun, nofun⟩

theorem reference_without : ChannelRec.reference.without p := ⟨nofun, nofun⟩

theorem unsubscribed_without {q : Port} {c : ChannelRec} (h : c.without p) : (c.unsubscribed q).without p := by
  cases c with
  | analog o subs => exact ⟨h.1, fun hm => h.2 (List.mem_of_mem_filter hm)⟩
  | free | digital | settling | reference => exact h

theorem channelAfterEnd_without {q : Port} {c : ChannelRec} (h : c.without p) : (channelAfterEnd q c).without p := by
  rw [← channelAfterEnd_eq]
  refine unsubscribed_without ?_
  unfold ChannelRec.freedFrom
  split
  · exact free_without
  · exact h

/-- A session end leaves the session no channel and no subscription (02 R47). -/
theorem channelAfterEnd_without_ended (p : Port) (c : ChannelRec) : (channelAfterEnd p c).without p := by
  cases c with
  | free => exact free_without
  | reference => exact reference_without
  | digital o d | settling o n due =>
    by_cases ho : o = p
    · rw [channelAfterEnd, if_pos ho]
      exact free_without
    · rw [channelAfterEnd, if_neg ho]
      exact ⟨fun h => ho (Option.some.inj h), nofun⟩
  | analog o subs =>
    by_cases ho : o = p
    · rw [channelAfterEnd, if_pos ho]
      exact free_without
    · rw [channelAfterEnd, if_neg ho]
      refine ⟨fun h => ho (Option.some.inj h), fun h => ?_⟩
      simpa using (List.mem_filter.mp h).2

theorem claimWrites_without {q : Port} {x : ChannelRec} (hq : q ≠ p) (h : claimWrites q x) : x.without p := by
  rcases h with rfl | rfl | ⟨d, rfl⟩
  all_goals exact ⟨fun h => hq (Option.some.inj h), nofun⟩

theorem effect_channels_without (h : Effect s t) (hp : isOpen s p = false) (hs : ∀ ch, (look s.channels ch).without p) :
    ∀ ch, (look t.channels ch).without p := by
  cases h
  case reset cause =>
    intro ch
    simpa [resetBy, State.reset] using free_without
  case ended q left hq hl =>
    intro ch
    rw [look_endSession_channels]
    split
    · exact free_without
    · exact channelAfterEnd_without (hs ch)
  case claimed q ch x hq hc hx => exact without_put hs (claimWrites_without (ne_of_open hp hq) hx)
  case subscribed q ch o subs hq hc ho hn hl =>
    have hch := hs ch
    rw [hc] at hch
    refine without_put hs ⟨hch.1, fun hm => ?_⟩
    rcases List.mem_append.mp hm with hm | hm
    · exact hch.2 hm
    · exact ne_of_open hp hq (List.mem_singleton.mp hm).symm
  case unsubscribed q ch =>
    rw [unsubscribed_channels]
    exact without_put hs (unsubscribed_without (hs ch))
  case modeChanged q ch subs hq hc hu =>
    rw [changeMode_channels]
    exact without_put hs ⟨fun h => ne_of_open hp hq (Option.some.inj h), nofun⟩
  case released q ch subs hc hu =>
    rw [releaseAnalog_channels]
    exact without_put hs free_without
  case freed q ch ho hu => exact without_put hs free_without
  case analogSettled ch o n hc =>
    have hch := hs ch
    rw [hc] at hch
    exact without_put hs ⟨hch.1, nofun⟩
  case referenceReleased =>
    rw [loseHolder_eq]
    dsimp only
    split
    · exact without_put hs free_without
    · exact hs
  case switchTaken r hx hh hc =>
    rw [(takeSwitch_changes s r).2]
    cases r
    · exact without_put hs reference_without
    · exact hs
  case switchWithdrawn r hx hh =>
    rw [(withdrawSwitch_changes s r).2]
    cases r
    · exact without_put hs free_without
    · exact hs
  case referenceSettled r n hx =>
    simp only [arbitrate_fields, settleEnded_changes]
    cases r
    · exact without_put hs free_without
    · exact hs
  case committed q c hq hb hf =>
    rw [commitCopy_state]
    split <;> simpa using hs
  all_goals simpa using hs

/-- The session holds neither role. -/
def noRole (s : State) (p : Port) : Prop := s.reference.holder ≠ some p ∧ s.timebase.holder ≠ some p

theorem noRole_of (hreference : t.reference.holder = none ∨ t.reference.holder = s.reference.holder)
    (htimebase : t.timebase.holder = none ∨ t.timebase.holder = s.timebase.holder) (hs : noRole s p) : noRole t p := by
  refine ⟨?_, ?_⟩
  · rcases hreference with h | h <;> rw [h]
    · nofun
    · exact hs.1
  · rcases htimebase with h | h <;> rw [h]
    · nofun
    · exact hs.2

theorem takeBoundary_holder (o : SyncOutcome) (s : State) : (takeBoundary o s).timebase.holder = s.timebase.holder := by
  rw [takeBoundary_timebase]
  split <;> rfl

theorem immediateApply_holder (s : State) : (immediateApply s).timebase.holder = s.timebase.holder := by
  rw [immediateApply_timebase]
  unfold Timebase.applied Timebase.frame0
  split
  · rfl
  · split
    · rfl
    · split <;> rfl
    · rfl

theorem effect_noRole (h : Effect s t) (hp : isOpen s p = false) (hs : noRole s p) : noRole t p := by
  cases h
  case reset cause => exact ⟨nofun, nofun⟩
  case ended q left hq hl =>
    refine noRole_of ?_ ?_ hs
    · rw [(endSession_fields q left s).2.2.2.2.2.2.1]
      unfold Reference.afterEnd
      split
      · exact .inl rfl
      · exact .inr rfl
    · rw [(endSession_fields q left s).2.2.2.2.2.2.2.1]
      unfold Timebase.afterEnd
      dsimp only
      split
      · exact .inl rfl
      · exact .inr rfl
  case referenceClaimed q hq hh => exact ⟨fun h => ne_of_open hp hq (Option.some.inj h), hs.2⟩
  case referenceReleased => exact noRole_of (.inl (by simp [loseHolder_eq])) (.inr (by simp)) hs
  case timebaseClaimed q hq => exact ⟨hs.1, fun h => ne_of_open hp hq (Option.some.inj h)⟩
  case timebaseReleased => exact ⟨hs.1, nofun⟩
  case boundary o hr hm => exact noRole_of (.inr (by simp)) (.inr (takeBoundary_holder o s)) hs
  case committed q c hq hb hf =>
    rw [commitCopy_state]
    split
    · exact noRole_of (.inr (by simp)) (.inr (by simp)) hs
    · exact noRole_of (.inr (by simp)) (.inr (by simp [immediateApply_holder])) hs
  all_goals exact noRole_of (.inr (by simp)) (.inr (by simp [Timebase.frame0])) hs

/-! ### Slots -/

/-- The session owns no slot of the next plan and no slot of the active plan that is not void. -/
def ownsNoSlot (s : State) (p : Port) : Prop := ∀ sl, inPlans s sl → sl.owner ≠ p

theorem ownsNoSlot_of (h : ∀ sl, inPlans t sl → inPlans s sl) (hs : ownsNoSlot s p) : ownsNoSlot t p :=
  fun sl hsl => hs sl (h sl hsl)

theorem applyEdit_owners {q : Port} {c d : PlanCopy} {e : Edit} (h : applyEdit s q c e = .ok d) (hq : q ≠ p)
    (hc : ∀ sl ∈ c.slots, sl.owner ≠ p) : ∀ sl ∈ d.slots, sl.owner ≠ p := by
  cases e with
  | add sl =>
    obtain ⟨-, rfl⟩ := applyEdit_add.mp h
    intro x hx
    rcases List.mem_append.mp hx with hx | hx
    · exact hc x hx
    · rw [List.mem_singleton.mp hx]
      exact hq
  | move id phase =>
    obtain ⟨sl, -, -, rfl⟩ := applyEdit_move.mp h
    intro x hx
    obtain ⟨y, hy, rfl⟩ := List.mem_map.mp hx
    have := hc y hy
    split <;> exact this
  | drop id =>
    obtain ⟨sl, -, -, rfl⟩ := applyEdit_drop.mp h
    exact fun x hx => hc x (List.mem_of_mem_filter hx)
  | timing r =>
    obtain ⟨-, rfl⟩ := applyEdit_timing_edit.mp h
    exact hc

theorem applyEdits_owners {q : Port} {edits : List Edit} {i : Nat} {c d : PlanCopy}
    (h : applyEdits s q i edits c = .ok d) (hq : q ≠ p) (hc : ∀ sl ∈ c.slots, sl.owner ≠ p) :
    ∀ sl ∈ d.slots, sl.owner ≠ p := by
  induction edits generalizing i c with
  | nil =>
    cases h
    exact hc
  | cons e es ih =>
    unfold applyEdits at h
    split at h
    · next b hb => exact ih h (applyEdit_owners hb hq hc)
    · cases h

/-- A COMMIT gives slots to its own session alone (05 R96). -/
theorem buildCopy_owners {q : Port} {c : PlanCopy} (h : buildCopy s q = .ok c) (hq : q ≠ p)
    (hs : ∀ sl ∈ s.nextPlan, sl.owner ≠ p) : ∀ sl ∈ c.slots, sl.owner ≠ p := by
  obtain ⟨d, hd, rfl⟩ := buildCopy_ok h
  exact fun sl hsl => applyEdits_owners hd hq hs sl ((inPhaseOrder_perm d.slots).mem_iff.mp hsl)

theorem effect_ownsNoSlot (h : Effect s t) (hp : isOpen s p = false) (hs : ownsNoSlot s p) : ownsNoSlot t p := by
  cases h
  case reset cause =>
    rintro sl (h | h)
    · cases h
    · cases h
  case ended q left hq hl => exact ownsNoSlot_of (fun sl h => (endSession_planned h).1) hs
  case boundary o hr hm => exact ownsNoSlot_of (fun sl h => .inl (by simpa [inPlans] using h)) hs
  case committed q c hq hb hf =>
    have hc := buildCopy_owners hb (ne_of_open hp hq) fun sl hsl => hs sl (.inl hsl)
    rw [commitCopy_state]
    intro sl hsl
    split at hsl
    · rcases hsl with h | h
      · exact hc sl (by simpa using h)
      · exact hs sl (.inr (by simpa using h))
    · exact hc sl (by simpa [inPlans] using hsl)
  all_goals exact ownsNoSlot_of (fun sl => by simp [inPlans]) hs

/-! ### Monitors -/

/-- Every monitor of `t` stands in `s`, with its owner and slot. -/
def MonitorsShrink (s t : State) : Prop :=
  ∀ (m : MonitorId) (r : Monitor), look t.monitors m = some r →
    ∃ r', look s.monitors m = some r' ∧ r'.owner = r.owner ∧ r'.slot = r.slot

theorem MonitorsShrink.of_eq (h : t.monitors = s.monitors) : MonitorsShrink s t :=
  fun _ r hr => ⟨r, h ▸ hr, rfl, rfl⟩

theorem MonitorsShrink.trans {u : State} (h : MonitorsShrink s t) (h' : MonitorsShrink t u) : MonitorsShrink s u := by
  intro m r hr
  obtain ⟨r', hr', ho', hs'⟩ := h' m r hr
  obtain ⟨r'', hr'', ho'', hs''⟩ := h m r' hr'
  exact ⟨r'', hr'', ho''.trans ho', hs''.trans hs'⟩

theorem MonitorsShrink.after {u : State} (h : MonitorsShrink u t) (hu : u.monitors = s.monitors) : MonitorsShrink s t :=
  (MonitorsShrink.of_eq hu).trans h

theorem freeMonitor_shrinks (m : MonitorId) (s : State) : MonitorsShrink s (freeMonitor m s) := by
  intro n r hr
  have hlook : look (freeMonitor m s).monitors n = if m = n then none else look s.monitors n := look_put _ _ _ _
  rw [hlook] at hr
  split at hr
  · cases hr
  · exact ⟨r, hr, rfl, rfl⟩

theorem detachLeavings_shrinks (ids : List SlotId) (s : State) : MonitorsShrink s (ids.foldl detachLeaving s) := by
  induction ids generalizing s with
  | nil => exact .of_eq rfl
  | cons id ids ih =>
    refine MonitorsShrink.trans ?_ (ih _)
    unfold detachLeaving
    split
    · exact .of_eq rfl
    · split
      · exact .of_eq rfl
      · exact (freeMonitor_shrinks _ s).trans (.of_eq rfl)

theorem replacePlan_shrinks (s : State) : MonitorsShrink s (replacePlan s) := by
  have hdetached := detachLeavings_shrinks (((leavingSlots s).filter fun a => !a.void).map fun a => a.slot.id) s
  rw [List.foldl_map] at hdetached
  exact hdetached.trans (.of_eq rfl)

theorem classified_names (r : Monitor) (z : Zone) : (classified r z).owner = r.owner ∧ (classified r z).slot = r.slot := by
  unfold classified
  split
  · exact ⟨rfl, rfl⟩
  · split <;> exact ⟨rfl, rfl⟩

theorem monitorStage_shrinks (c : InFlight) (s : State) : MonitorsShrink s (monitorStage c s) := by
  unfold monitorStage
  cases hn : namedMonitor s c with
  | none => exact .of_eq rfl
  | some x =>
    obtain ⟨m, r⟩ := x
    intro n r' hr'
    have hlook : look (put s.monitors m (some (classified r (zoneOf r (scaled c.resolution c.value))))) n = some r' := hr'
    rw [look_put] at hlook
    split at hlook
    · next hm =>
      subst hm
      cases hlook
      unfold namedMonitor at hn
      split at hn
      · cases hn
      · obtain ⟨r'', hr'', he⟩ := Option.map_eq_some_iff.mp hn
        cases he
        obtain ⟨ho, hs⟩ := classified_names r (zoneOf r (scaled c.resolution c.value))
        exact ⟨r, hr'', ho.symm, hs.symm⟩
    · exact ⟨r', hlook, rfl, rfl⟩

theorem endConversion_shrinks (c : InFlight) (s : State) : MonitorsShrink s (endConversion c s) := by
  have hdelivered (v : State) : MonitorsShrink v (deliver c v) := by
    refine (monitorStage_shrinks c v).trans (.of_eq ?_)
    show (latestStage c (monitorStage c v)).monitors = _
    rw [latestStage_frame]
  have hcleared : MonitorsShrink s (if c.discard = true then { s with inFlight := none, activePlan := doneSlot c s.activePlan }
      else deliver c { s with inFlight := none, activePlan := doneSlot c s.activePlan }) := by
    split
    · exact .of_eq rfl
    · exact (hdelivered _).after rfl
  have hbegun (v : State) : (beginSettle v).monitors = v.monitors := by simp
  exact hcleared.trans (.of_eq (hbegun _))

theorem immediateApply_shrinks (s : State) : MonitorsShrink s (immediateApply s) := by
  have hreplaced : (immediateApply s).monitors = (replacePlan s).monitors := by
    unfold immediateApply
    simp
  exact (replacePlan_shrinks s).trans (.of_eq hreplaced)

theorem takeBoundary_shrinks (o : SyncOutcome) (s : State) : MonitorsShrink s (takeBoundary o s) := by
  have hstages : MonitorsShrink s (boundaryStage2 s.timebase.frameNumber (boundaryStage1 o s)) := by
    have hmissed : (missPending s.timebase.frameNumber (boundaryStage1 o s)).monitors = s.monitors := by simp
    have hreplaced : (boundaryStage2 s.timebase.frameNumber (boundaryStage1 o s)).monitors
        = (replacePlan (missPending s.timebase.frameNumber (boundaryStage1 o s))).monitors := by
      unfold boundaryStage2
      simp
    exact (MonitorsShrink.of_eq hmissed).trans ((replacePlan_shrinks _).trans (.of_eq hreplaced))
  refine hstages.trans (.of_eq ?_)
  unfold takeBoundary
  dsimp only
  split <;> simp

theorem endSession_monitors (q : Port) (left : SessionState) (s : State) (m : MonitorId) :
    look (endSession q left s).monitors m = (look s.monitors m).filter fun r => r.owner != q := by
  simp [endSession, look_teardown_monitors]

theorem endSession_shrinks (q : Port) (left : SessionState) (s : State) : MonitorsShrink s (endSession q left s) := by
  intro m r hr
  rw [endSession_monitors] at hr
  exact ⟨r, (Option.filter_eq_some_iff.mp hr).1, rfl, rfl⟩

/-- An effect takes monitors away, or attaches one to a slot that has none. -/
theorem effect_monitors (h : Effect s t) :
    MonitorsShrink s t
      ∨ ∃ q a m, isOpen s q = true ∧ monitorOf s a.slot = none ∧ t = setMonitor m (some (MonitorArgs.attached q a)) s := by
  cases h
  case monitorAttached q a m hq hm => exact .inr ⟨q, a, m, hq, hm, rfl⟩
  all_goals refine .inl ?_
  case reset cause =>
    intro m r hr
    simp [resetBy, State.reset] at hr
  case ended q left hq hl => exact endSession_shrinks q left s
  case boundary o hr hm => exact takeBoundary_shrinks o s
  case committed q c hq hb hf =>
    have hinstalled : MonitorsShrink s (installCopy q c s) := (detachLeavings_shrinks _ _).after rfl
    rw [commitCopy_state]
    split
    · exact hinstalled.trans (.of_eq (by simp))
    · exact hinstalled.trans (immediateApply_shrinks _)
  case converted c hc => exact (endConversion_shrinks c s).trans (.of_eq (by simp))
  case monitorFreed m => exact freeMonitor_shrinks m s
  all_goals exact .of_eq (by simp)

/-- The session owns no monitor. -/
def ownsNoMonitor (s : State) (p : Port) : Prop := ∀ (m : MonitorId) (r : Monitor), look s.monitors m = some r → r.owner ≠ p

theorem effect_ownsNoMonitor (h : Effect s t) (hp : isOpen s p = false) (hs : ownsNoMonitor s p) : ownsNoMonitor t p := by
  intro m r hr
  rcases effect_monitors h with hshrink | ⟨q, a, n, hq, -, rfl⟩
  · obtain ⟨r', hr', ho, -⟩ := hshrink m r hr
    exact ho ▸ hs m r' hr'
  · rw [setMonitor_monitors, look_put] at hr
    split at hr
    · cases hr
      exact ne_of_open hp hq
    · exact hs m r hr

/-- A slot without a monitor is named by none (08 R146). -/
theorem not_named_of_monitorOf {id : SlotId} (h : monitorOf s id = none) (m : MonitorId) (r : Monitor)
    (hr : look s.monitors m = some r) : r.slot ≠ id := by
  have hm := List.find?_eq_none.mp h m (mem_allMonitors m)
  rw [hr] at hm
  simpa using hm

theorem effect_keeps_monitors (h : Effect s t) (hs : monitorsDistinct s) : monitorsDistinct t := by
  intro m n a b ha hb hab
  rcases effect_monitors h with hshrink | ⟨q, args, k, -, hnone, rfl⟩
  · obtain ⟨a', ha', -, hsa⟩ := hshrink m a ha
    obtain ⟨b', hb', -, hsb⟩ := hshrink n b hb
    exact hs m n a' b' ha' hb' (hsa.trans (hab.trans hsb.symm))
  · rw [setMonitor_monitors, look_put] at ha hb
    split at ha <;> split at hb
    · next hm hn => exact hm.symm.trans hn
    · cases ha
      exact absurd hab.symm (not_named_of_monitorOf hnone n b hb)
    · cases hb
      exact absurd hab (not_named_of_monitorOf hnone m a ha)
    · exact hs m n a b ha hb hab

/-! ### Every step -/

theorem holdsNothing_iff (s : State) (p : Port) :
    holdsNothing s p
      ↔ queuesEmpty s p ∧ stagedNothing s p ∧ (∀ ch, (look s.channels ch).without p) ∧ ownsNoMonitor s p ∧ noRole s p
        ∧ ownsNoSlot s p := by
  have hslots : ((∀ sl ∈ s.nextPlan, sl.owner ≠ p) ∧ ∀ a ∈ s.activePlan, a.slot.owner = p → a.void = true)
      ↔ ownsNoSlot s p := by
    constructor
    · rintro ⟨hnext, hactive⟩ sl (h | h)
      · exact hnext sl h
      · obtain ⟨a, ha, rfl, hv⟩ := mem_outline.mp h
        intro ho
        rw [hactive a ha ho] at hv
        cases hv
    · intro h
      refine ⟨fun sl hsl => h sl (.inl hsl), fun a ha ho => ?_⟩
      by_contra hv
      exact h a.slot (.inr (mem_outline.mpr ⟨a, ha, rfl, by simpa using hv⟩)) ho
  unfold holdsNothing
  constructor
  · rintro ⟨hreq, hstaging, hnoted, hres, hev, hch, hmon, href, htb, hslot⟩
    exact ⟨⟨hreq, hres, hev⟩, ⟨hstaging, hnoted⟩, hch, hmon, ⟨href, htb⟩, hslots.mp hslot⟩
  · rintro ⟨⟨hreq, hres, hev⟩, ⟨hstaging, hnoted⟩, hch, hmon, ⟨href, htb⟩, hslot⟩
    exact ⟨hreq, hstaging, hnoted, hres, hev, hch, hmon, href, htb, hslots.mpr hslot⟩

/-- A session that has just ended holds nothing (10 R177). -/
theorem endSession_holdsNothing (p : Port) (left : SessionState) (s : State) : holdsNothing (endSession p left s) p := by
  rw [holdsNothing_iff]
  refine ⟨⟨?_, ?_⟩, ⟨by simp, by simp⟩, fun ch => ?_, fun m r hr => ?_, ⟨?_, ?_⟩, fun sl hsl => (endSession_planned hsl).2⟩
  · have htorn := arbitrateIf_requests (endRaisesDecision p s (teardown p (setSession p { look s.sessions p with state := left } s)))
      (teardown p (setSession p { look s.sessions p with state := left } s)) p
    rw [look_teardown_requests, if_pos rfl] at htorn
    exact List.sublist_nil.mp htorn
  · obtain ⟨v, -, hr, he⟩ := endSession_queues p left s
    rw [hr, he, look_put_same, look_put_same]
    exact ⟨rfl, rfl⟩
  · rw [look_endSession_channels]
    split
    · exact free_without
    · exact channelAfterEnd_without_ended p _
  · rw [endSession_monitors] at hr
    simpa using (Option.filter_eq_some_iff.mp hr).2
  · rw [(endSession_fields p left s).2.2.2.2.2.2.1]
    unfold Reference.afterEnd
    split
    · nofun
    · next h => exact h
  · rw [(endSession_fields p left s).2.2.2.2.2.2.2.1]
    unfold Timebase.afterEnd
    dsimp only
    split
    · nofun
    · next h => exact h

/-- A device reset leaves no session anything (10 R180). -/
theorem resetBy_holdsNothing (cause : ResetCause) (s : State) (p : Port) : holdsNothing (resetBy cause s) p := by
  refine ⟨?_, ?_, ?_, ?_, ?_, fun ch => ?_, fun m r hr => ?_, nofun, nofun, nofun, nofun⟩
  all_goals simp_all [resetBy, State.reset, ChannelRec.owner, ChannelRec.subscribers]

theorem effect_keeps_ended (h : Effect s t) (hs : endedHoldNothing s) : endedHoldNothing t := by
  intro p hp
  rcases effect_closed h hp with hclosed | ⟨left, rfl⟩ | ⟨cause, rfl⟩
  · obtain ⟨hqueues, hstaged, hchannels, hmonitors, hroles, hslots⟩ := (holdsNothing_iff s p).mp (hs p hclosed)
    exact (holdsNothing_iff t p).mpr ⟨effect_queuesEmpty h hclosed hqueues, effect_stagedNothing h hclosed hstaged,
      effect_channels_without h hclosed hchannels, effect_ownsNoMonitor h hclosed hmonitors,
      effect_noRole h hclosed hroles, effect_ownsNoSlot h hclosed hslots⟩
  · exact endSession_holdsNothing p left s
  · exact resetBy_holdsNothing cause s p

theorem isOpen_tick (s : State) (p : Port) : isOpen (tick s) p = isOpen s p := by
  unfold isOpen
  rw [(tick_fields s).2.2.1, look_tickSessions]
  unfold Session.ticked
  cases hx : (look s.sessions p).state <;> simp [Session.lease, hx]

theorem ticked_holder (b : Timebase) (timing : Timing) : (b.ticked timing).holder = b.holder := by
  unfold Timebase.ticked Timebase.counted
  split
  · rfl
  · rfl
  all_goals split <;> rfl

theorem tick_keeps_ended (h : endedHoldNothing s) : endedHoldNothing (tick s) := by
  intro p hp
  obtain ⟨hqueues, hstaged, hchannels, hmonitors, hroles, hslots⟩ := (holdsNothing_iff s p).mp (h p (isOpen_tick s p ▸ hp))
  refine (holdsNothing_iff _ p).mpr ⟨by simpa [queuesEmpty] using hqueues, by simpa [stagedNothing] using hstaged,
    fun ch => ?_, by simpa [ownsNoMonitor] using hmonitors, by simpa [noRole, ticked_holder] using hroles,
    ownsNoSlot_of (fun sl => by simp [inPlans]) hslots⟩
  rw [(tick_fields s).2.2.2.1, look_tickChannels]
  unfold ChannelRec.without
  rw [ticked_owner, ticked_subscribers]
  exact hchannels ch

theorem sampleSelects_keeps_ended (h : endedHoldNothing s) : endedHoldNothing (sampleSelects s) := by
  intro p hp
  rw [QueuesGrow.isOpen_congr (s := s) (by simp)] at hp
  simpa [holdsNothing] using h p hp

end Ended

/-- Settles O60: a session that is not OPEN gains nothing by an effect, and one that an effect ends is left nothing; monitors are
attached to slots without one only. -/
theorem stepKeepsEndedHoldNothing : Obligations.StepKeepsEndedHoldNothing := by
  intro s t hended hmonitors hstep
  refine step_keeps (P := fun s => endedHoldNothing s ∧ monitorsDistinct s) (fun _ _ _ h => h) (fun s t ho h => ?_)
    (fun _ _ he h => ⟨effect_keeps_ended he h.1, effect_keeps_monitors he h.2⟩) (fun s h => ?_) (fun s _ h => ?_)
    ⟨hended, hmonitors⟩ hstep
  · rw [ho.blocks]
    exact h
  · exact ⟨sampleSelects_keeps_ended h.1, by simpa [monitorsDistinct] using h.2⟩
  · exact ⟨tick_keeps_ended h.1, by simpa [monitorsDistinct] using h.2⟩

end Sys2Proof.Machine

/-! Voltages, sample codes and the mean of a conversion (01 R8, R9; 02 R25, R45; 03 R50). -/

namespace Sys2Proof.Machine

section Codes

variable {res : Resolution} {v vref : Rat} {free : Nat}

theorem sampleCode_below (h : v ≤ 0) (hv : v < vref) : sampleCode res v vref free = 0 := by
  unfold sampleCode
  rw [if_neg fun hb => absurd hv (not_lt.mpr hb.2), if_pos h]

theorem sampleCode_above (h : 0 < v) (hv : vref ≤ v) : sampleCode res v vref free = 2 ^ res.bits - 1 := by
  unfold sampleCode
  rw [if_neg fun hb => absurd h (not_lt.mpr hb.1), if_neg (not_le.mpr h), if_pos hv]

theorem sampleCode_between (h : 0 < v) (hv : v < vref) :
    sampleCode res v vref free = (v * (2 ^ res.bits : Nat) / vref).floor.toNat := by
  unfold sampleCode
  rw [if_neg fun hb => absurd h (not_lt.mpr hb.1), if_neg (not_le.mpr h), if_neg (not_le.mpr hv)]

/-- Between 0 V and the reference the code is the integer part of the quotient (01 R8). -/
theorem sampleCode_floor (h : 0 < v) (hv : v < vref) :
    (sampleCode res v vref free : Rat) ≤ v * 2 ^ res.bits / vref
      ∧ v * 2 ^ res.bits / vref < sampleCode res v vref free + 1 := by
  have hquotient : (0 : Rat) ≤ v * 2 ^ res.bits / vref := by
    have hvref : 0 < vref := h.trans hv
    positivity
  have hcode : ((sampleCode res v vref free : Nat) : Int) = ⌊v * 2 ^ res.bits / vref⌋ := by
    rw [sampleCode_between h hv, show ((2 ^ res.bits : Nat) : Rat) = 2 ^ res.bits by push_cast; rfl]
    exact Int.toNat_of_nonneg (Int.floor_nonneg.mpr hquotient)
  have hcast : (sampleCode res v vref free : Rat) = ((⌊v * 2 ^ res.bits / vref⌋ : Int) : Rat) := by
    rw [← hcode]
    rfl
  rw [hcast]
  exact ⟨Int.floor_le _, Int.lt_floor_add_one _⟩

/-- Every sample code fits its resolution (01 R8). -/
theorem sampleCode_lt (res : Resolution) (v vref : Rat) (free : Nat) : sampleCode res v vref free < 2 ^ res.bits := by
  have hpos : 0 < 2 ^ res.bits := Nat.two_pow_pos _
  by_cases h0 : v ≤ 0
  · by_cases hv : v < vref
    · rw [sampleCode_below h0 hv]
      exact hpos
    · unfold sampleCode
      rw [if_pos ⟨h0, not_lt.mp hv⟩]
      exact Nat.mod_lt _ hpos
  · have h := not_le.mp h0
    by_cases hv : v < vref
    · have hvref : 0 < vref := h.trans hv
      have hle := (sampleCode_floor (res := res) (free := free) h hv).1
      have hlt : v * 2 ^ res.bits / vref < 2 ^ res.bits := by
        rw [div_lt_iff₀ hvref, mul_comm]
        exact mul_lt_mul_of_pos_left hv (by positivity)
      exact_mod_cast hle.trans_lt hlt
    · rw [sampleCode_above h (not_lt.mp hv)]
      omega

end Codes

theorem Averaging.count_pos (n : Averaging) : 0 < n.count := by cases n <;> decide

theorem supplyVolts_range (s : State) : 3 ≤ supplyVolts s ∧ supplyVolts s ≤ 36 / 10 :=
  ⟨le_max_left _ _, max_le (by norm_num) (min_le_left _ _)⟩

theorem pinVolts_eq (s : State) (k : Fin 12) (ch : Channel) (h : ch.val = k.val) :
    pinVolts s k = match Config.outsideVolts s.moment k with
      | some v => v
      | none => match (pinCondition (look s.channels ch)).driven with
        | some level => if level = true then supplyVolts s else 0
        | none => if (pinCondition (look s.channels ch)).pullUp = true then supplyVolts s
            else Config.floatingVolts s.moment k := by
  obtain rfl : ch = k.castLE (by decide) := Fin.ext h
  unfold pinVolts
  obtain ⟨buffer, pullUp, driven⟩ := pinCondition (look s.channels (k.castLE (by decide)))
  cases Config.outsideVolts s.moment k with
  | some v => rfl
  | none => cases driven <;> rfl

theorem pinLevel_high {s : State} {k : Fin 12} (h : 7 / 10 * supplyVolts s < pinVolts s k) : pinLevel s k = true := if_pos h

theorem pinLevel_low {s : State} {k : Fin 12} (h : pinVolts s k < 3 / 10 * supplyVolts s) : pinLevel s k = false := by
  have hsupply := (supplyVolts_range s).1
  have hnot : ¬7 / 10 * supplyVolts s < pinVolts s k := by linarith
  unfold pinLevel
  dsimp only
  rw [if_neg hnot, if_pos h]

/-- Settles O49, each clause by the branch of the definition that it names. -/
theorem sampleCodesAndMean : Obligations.SampleCodesAndMean := by
  refine ⟨⟨fun o d => ?_, fun c hc => ?_⟩, fun s => ⟨(supplyVolts_range s).1, (supplyVolts_range s).2, rfl⟩, pinVolts_eq,
    fun s => ⟨rfl, rfl⟩, fun s r ch => ⟨fun k hk => ?_, fun h => ?_, fun h => ?_⟩,
    fun res v vref free => ⟨sampleCode_below, sampleCode_above, sampleCode_floor⟩,
    fun c => ⟨Nat.div_mul_le_self _ _, ?_⟩, fun s k => ⟨pinLevel_high, pinLevel_low⟩⟩
  · cases hd : d.direction <;> simp [pinCondition, hd]
  · cases c with
    | digital o d => exact absurd rfl (hc o d)
    | free | settling | analog | reference => rfl
  · have hlt : ch.val < 12 := hk ▸ k.isLt
    unfold channelVolts
    rw [dif_pos hlt]
    exact congrArg _ (Fin.ext hk)
  · unfold channelVolts
    rw [dif_neg (by omega), if_pos h]
  · unfold channelVolts
    rw [dif_neg (by omega), if_neg (by omega)]
  · rw [Nat.mul_comm]
    exact Nat.lt_mul_div_succ _ c.averaging.count_pos

end Sys2Proof.Machine

/-! Steps and reset: the front command, the state after reset, and what an idle step does (log 1 to 3, 8, 12). -/

namespace Sys2Proof.Machine

/-- Settles O1: the queue's front command is the one a step runs. -/
theorem stepRunsFrontCommand : Obligations.StepRunsFrontCommand := step_front

/-! ### The state after reset -/

/-- A power-on reset of the hub as it was reset, and its end, leave it as it was. -/
theorem reset_ended : ∃ t, exec (.deviceReset .powerOn) State.reset = .next t ∧ exec .resetEnd t = .next State.reset := by
  refine ⟨_, rfl, ?_⟩
  have hports : (State.reset.ports.map fun lp => { LinkPort.reset with select := lp.select.atReset }) = State.reset.ports := by
    simp [State.reset, LinkPort.reset, Select.atReset]
  show Host.Outcome.next _ = _
  rw [hports]
  rfl

theorem reset_isOpen (p : Port) : isOpen State.reset p = false := by
  simp [isOpen, State.reset, Session.lease]

theorem reset_queuesLawful : QueuesLawful State.reset where
  records p := by
    have hr : look State.reset.results p = ⟨[], 0, 0⟩ := look_replicate _ p
    have he : look State.reset.events p = ⟨[], 0⟩ := look_replicate _ p
    rw [hr, he]
    exact ⟨ResultQueue.lawful_empty 0, EventQueue.lawful_empty⟩
  requests p := by simp [State.reset]
  staging p := by simp [State.reset]
  errors p := by simp [State.reset, LinkPort.reset]
  tags p := ⟨by simp [State.reset], nofun⟩

theorem reset_channelsLawful : ChannelsLawful State.reset where
  channel11 := referenceChannelLawful_steady rfl (fun ch _ => by simp [State.reset]) (by simp [State.reset])
  converter := ⟨nofun, nofun⟩
  holder _ := .inl rfl
  subscribers ch := ChannelRec.listLawful_empty (by simp [State.reset, ChannelRec.subscribers])
  flight := nofun
  held := ⟨nofun, nofun⟩

theorem reset_countsInRange : countsInRange State.reset := by
  refine ⟨fun ch o n due h => ?_, nofun, fun p l h => ?_⟩
  · simp [State.reset] at h
  · simp [State.reset] at h

theorem reset_timingsLawful : timingsLawful State.reset := by
  have hreset : Timing.reset.lawful := ⟨by decide, by decide, by decide⟩
  exact ⟨hreset, hreset, fun p r hr => by simp [State.reset] at hr⟩

theorem reset_plansFeasible : plansFeasible State.reset := by
  have hempty : feasible Timing.reset [] = true := by decide
  exact ⟨hempty, hempty⟩

theorem reset_idPoolLawful : idPoolLawful State.reset := by
  have hreserved : ∀ p, reservedBy State.reset p = [] := by
    intro p
    simp [reservedBy, State.reset, reservedIds]
  rw [idPoolLawful_iff]
  refine ⟨List.nodup_nil, List.nodup_nil, fun p => ?_, fun p q _ id hid => ?_, fun p id hid => ?_⟩
  · rw [hreserved]
    exact List.nodup_nil
  · rw [hreserved] at hid
    cases hid
  · rw [hreserved] at hid
    cases hid

/-- A device reset changes nothing of the hub as it was reset but the ports' account of it. -/
theorem reset_endedHoldNothing : endedHoldNothing State.reset := fun p _ => resetBy_holdsNothing .powerOn State.reset p

/-- Settles O55: the reset state is the end of a power-on reset, and each law holds of it. -/
theorem resetIsLawful : Obligations.ResetIsLawful := by
  obtain ⟨hbounded, hsequences, htags⟩ := (queuesLawful_iff _).mp reset_queuesLawful
  have hchannels := reset_channelsLawful
  exact ⟨reset_ended, hbounded, hsequences, htags, hchannels.subscribers, hchannels.channel11, hchannels.converter,
    hchannels.holder, hchannels.flight, hchannels.held, ⟨fun _ => rfl, fun _ => rfl⟩, reset_timingsLawful,
    ⟨nofun, fun _ => ⟨rfl, rfl, rfl⟩, nofun, Nat.zero_le _, nofun, Nat.zero_le _⟩, reset_countsInRange,
    reset_plansFeasible, reset_idPoolLawful, fun m n a b ha => by simp [State.reset] at ha, reset_endedHoldNothing⟩

/-! ### The events that are due -/

section Due

variable {s : State} {c : Instr}

theorem mem_when {b : Bool} {d : Instr} : c ∈ when b d ↔ b = true ∧ c = d := by
  cases b <;> simp [when]

/-- An event is due where the condition of its kind holds. -/
theorem mem_dueEvents :
    c ∈ dueEvents s
      ↔ (conversionDue s = true ∧ c = .conversionEnd) ∨ (∃ ch, analogSettleDue s ch = true ∧ c = .analogSettleEnd ch)
        ∨ (referenceSettleDue s = true ∧ c = .referenceSettleEnd)
        ∨ ((countedBoundary s).isSome = true ∧ c = .frameBoundary)
        ∨ (huntingLimitDue s = true ∧ c = .huntingLimit) ∨ (phaseArrivalDue s = true ∧ c = .phaseArrival)
        ∨ (∃ p, leaseFallDue s p = true ∧ c = .leaseFall p) ∨ (∃ p, leaseExpiryDue s p = true ∧ c = .leaseExpiry p)
        ∨ (s.syncEdgeSampled = true ∧ c = .syncEdge) := by
  simp only [dueEvents, List.mem_append, List.mem_flatMap, mem_when, mem_allChannels, mem_allPorts, true_and, or_assoc]

theorem conversionDue_iff : conversionDue s = true ↔ ∃ c, s.inFlight = some c ∧ c.plannedEnd ≤ s.clock := by
  unfold conversionDue
  cases s.inFlight <;> simp

theorem analogSettleDue_iff {ch : Channel} :
    analogSettleDue s ch = true ↔ ∃ o n, look s.channels ch = .settling o n true := by
  unfold analogSettleDue
  cases look s.channels ch <;> simp

theorem referenceSettleDue_iff : referenceSettleDue s = true ↔ ∃ r n, s.reference.state = .settling r n true := by
  unfold referenceSettleDue
  cases s.reference.state <;> simp

theorem countedBoundary_isSome : (countedBoundary s).isSome = true ↔ running s = true ∧ s.timebase.boundaryDue = true := by
  unfold countedBoundary running
  cases s.timebase.state <;> cases s.timebase.boundaryDue <;> simp [TimebaseState.running]

theorem huntingLimitDue_iff :
    huntingLimitDue s = true ↔ ∃ n, s.timebase.state = .hunting n ∧ 4 * s.activeTiming.frameLength ≤ n := by
  unfold huntingLimitDue
  cases s.timebase.state <;> simp

theorem phaseArrivalDue_iff :
    phaseArrivalDue s = true
      ↔ running s = true ∧ ∃ a ∈ s.activePlan, a.slot.phase = s.timebase.elapsed ∧ a.arrived = false := by
  simp [phaseArrivalDue, arrivingSlot]

theorem leaseFallDue_iff {p : Port} :
    leaseFallDue s p = true ↔ ∃ l, (look s.sessions p).state = .opened l ∧ l.fallDue = true := by
  unfold leaseFallDue Session.lease
  cases (look s.sessions p).state <;> simp

theorem leaseExpiryDue_iff {p : Port} :
    leaseExpiryDue s p = true ↔ ∃ l, (look s.sessions p).state = .opened l ∧ l.leaseRemaining = 0 := by
  unfold leaseExpiryDue Session.lease
  cases (look s.sessions p).state <;> simp

theorem mem_readyReplies :
    c ∈ readyReplies s ↔ ∃ p : Port, (look s.ports p).processing.isSome = true ∧ c = .replyStored p := by
  simp [readyReplies, mem_when, mem_allPorts, LinkPort.busy]

/-! ### The choice of an idle step -/

theorem idleChoice_mem (s : State) : idleChoice s ∈ idleChoices s := by
  unfold idleChoice
  split
  · next h =>
    unfold idleChoices at h
    cases hd : dueEvents s <;> simp [hd] at h
  · next c h =>
    rw [h]
    exact List.mem_singleton_self c
  · next c rest _ h =>
    have hlt : Config.choice s.moment % (rest.length + 1) < (c :: rest).length := Nat.mod_lt _ (Nat.succ_pos _)
    rw [h, List.getD_eq_getElem _ _ hlt]
    exact List.getElem_mem hlt

theorem mem_idleChoices_due (h : dueEvents s ≠ []) {x : Option Instr} (hx : x ∈ idleChoices s) :
    ∃ c, x = some c ∧ (c ∈ dueEvents s ∨ c ∈ readyReplies s) := by
  unfold idleChoices at hx
  split at hx
  · next hd => exact absurd hd h
  · rcases List.mem_append.mp hx with hx | hx
    · obtain ⟨c, hc, rfl⟩ := List.mem_map.mp hx
      exact ⟨c, rfl, .inl hc⟩
    · obtain ⟨c, hc, rfl⟩ := List.mem_map.mp hx
      exact ⟨c, rfl, .inr hc⟩

theorem mem_idleChoices_none_due (h : dueEvents s = []) {x : Option Instr} (hx : x ∈ idleChoices s) :
    x = none ∨ ∃ c, x = some c ∧ c ∈ readyReplies s := by
  unfold idleChoices at hx
  rw [h] at hx
  rcases List.mem_cons.mp hx with hx | hx
  · exact .inl hx
  · obtain ⟨c, hc, rfl⟩ := List.mem_map.mp hx
    exact .inr ⟨c, rfl, hc⟩

theorem step_idle (hpending : s.pending = []) : step s = idleStep s := by
  unfold step
  split
  · next h =>
    rw [hpending] at h
    cases h
  · rfl

theorem idleStep_event (hreset : s.inReset = false) (hc : idleChoice s = some c) :
    idleStep s = exec c { s with moment := s.moment + 1 } := by
  unfold idleStep
  rw [if_neg (by simp [hreset]), hc]

theorem idleStep_tick (hreset : s.inReset = false) (hc : idleChoice s = none) : idleStep s = .next (tick s) := by
  unfold idleStep
  rw [if_neg (by simp [hreset]), hc]

theorem step_idle_due (hpending : s.pending = []) (hreset : s.inReset = false) (hdue : dueEvents s ≠ []) :
    ∃ c, (c ∈ dueEvents s ∨ ∃ p : Port, (look s.ports p).processing.isSome = true ∧ c = .replyStored p)
      ∧ step s = exec c { s with moment := s.moment + 1 } := by
  obtain ⟨c, hc, hmem⟩ := mem_idleChoices_due hdue (idleChoice_mem s)
  refine ⟨c, hmem.imp_right mem_readyReplies.mp, ?_⟩
  rw [step_idle hpending, idleStep_event hreset hc]

theorem step_idle_ticks (hpending : s.pending = []) (hreset : s.inReset = false) (hdue : dueEvents s = []) :
    step s = .next (tick s)
      ∨ ∃ p : Port, (look s.ports p).processing.isSome = true
          ∧ step s = exec (.replyStored p) { s with moment := s.moment + 1 } := by
  rw [step_idle hpending]
  rcases mem_idleChoices_none_due hdue (idleChoice_mem s) with hc | ⟨c, hc, hmem⟩
  · exact .inl (idleStep_tick hreset hc)
  · obtain ⟨p, hp, rfl⟩ := mem_readyReplies.mp hmem
    exact .inr ⟨p, hp, idleStep_event hreset hc⟩

end Due

/-! ### One device tick -/

section Ticks

variable {s : State}

/-- The state of a tick before SYNC and the selects are sampled. -/
def ticking (s : State) : State :=
  { s with
    clock := s.clock + 1
    moment := s.moment + 1
    sessions := tickSessions s.sessions
    channels := tickChannels s.channels
    reference := { s.reference with state := s.reference.state.ticked }
    timebase := s.timebase.ticked s.activeTiming }

theorem tick_ticking (s : State) : tick s = sampleSelects (sampleSync (sampleNow (ticking s))) := rfl

theorem tick_frame (s : State) :
    tick s = { s with
      clock := s.clock + 1, moment := s.moment + 1, sessions := tickSessions s.sessions
      channels := tickChannels s.channels, reference := { s.reference with state := s.reference.state.ticked }
      timebase := s.timebase.ticked s.activeTiming, inFlight := (sampleNow (ticking s)).inFlight
      syncInput := s.syncInput.tail, syncSampledLow := !s.syncInput.headD false
      syncEdgeSampled := s.syncInput.headD false && s.syncSampledLow
      ports := (tick s).ports, selectInput := (tick s).selectInput } := by
  rw [tick_ticking, sampleSelects_frame]
  rfl

/-- The counts of a tick are in no status byte. -/
theorem statusByte_ticked (s : State) (p : Port) :
    statusByte (sampleSync (sampleNow (ticking s))) p = statusByte s p := by
  have hsession : look (sampleSync (sampleNow (ticking s))).sessions p = (look s.sessions p).ticked :=
    look_tickSessions s.sessions p
  have hports : (sampleSync (sampleNow (ticking s))).ports = s.ports := rfl
  have hresults : (sampleSync (sampleNow (ticking s))).results = s.results := rfl
  have hevents : (sampleSync (sampleNow (ticking s))).events = s.events := rfl
  have hmark : atWatermark (sampleSync (sampleNow (ticking s))) p = atWatermark s p := by
    unfold atWatermark
    rw [hsession, hresults]
    unfold Session.ticked Session.lease Lease.ticked
    cases hx : (look s.sessions p).state with
    | closed | revoked => simp [hx]
    | opened l => by_cases hl : l.leaseTick + 1 < 2000 <;> simp [hl]
  have halert : alert (sampleSync (sampleNow (ticking s))) p = alert s p := by
    unfold alert
    rw [hsession, hevents, hmark]
    unfold Session.ticked
    cases hx : (look s.sessions p).state <;> simp [hx]
  unfold statusByte
  rw [halert, hmark, hports, hsession]
  unfold Session.ticked
  cases hx : (look s.sessions p).state <;> simp [hx]

/-- A select sampled at a tick or during a reset (11 R181, R182). -/
theorem sampled_select (s : State) (p : Port) :
    (look s.selectInput p = [] → look (sampleSelects s).ports p = look s.ports p ∧ look (sampleSelects s).selectInput p = [])
      ∧ ∀ level later, look s.selectInput p = level :: later →
        look (sampleSelects s).selectInput p = later
          ∧ look (sampleSelects s).ports p = { look s.ports p with
              select := if level = true then .high
                else if (look s.ports p).select = .high then (if s.inReset then .ignored else .low (statusByte s p))
                else (look s.ports p).select } := by
  obtain ⟨hports, hinput⟩ := sampleSelects_port s p
  refine ⟨fun h => ?_, fun level later h => ?_⟩
  · rw [hports, hinput, h]
    exact ⟨rfl, rfl⟩
  · rw [hports, hinput, h]
    refine ⟨rfl, ?_⟩
    unfold Select.sampled
    cases level
    · cases (look s.ports p).select <;> simp
    · simp

/-- A sample is taken where an acquisition period ends (01 R2, R8). -/
theorem tick_samples {c : InFlight} (hc : s.inFlight = some c) (hcount : c.samples.length < c.averaging.count)
    (hend : s.clock + 1 = c.startTick + c.samples.length * (c.sampleTicks + c.resolution.ticks) + c.sampleTicks) :
    (tick s).inFlight = some { c with samples := c.samples ++ [takeSample (ticking s) c] } := by
  rw [tick_frame]
  show (s.inFlight.map _) = _
  rw [hc, Option.map_some]
  exact congrArg some (if_pos ⟨hcount, hend.symm⟩)

theorem tick_keeps_flight {c : InFlight} (hc : s.inFlight = some c)
    (h : c.averaging.count ≤ c.samples.length
      ∨ s.clock + 1 ≠ c.startTick + c.samples.length * (c.sampleTicks + c.resolution.ticks) + c.sampleTicks) :
    (tick s).inFlight = some c := by
  rw [tick_frame]
  show (s.inFlight.map _) = _
  rw [hc, Option.map_some]
  refine congrArg some (if_neg ?_)
  rintro ⟨hcount, hend⟩
  exact h.elim (fun h => absurd hcount (Nat.not_lt.mpr h)) fun h => h hend.symm

/-- Voltages are those of the channels and the moment of the state. -/
theorem takeSample_tick (s : State) (c : InFlight) :
    takeSample (ticking s) c
      = sampleCode c.resolution (channelVolts (tick s) c.reference c.channel) (refVolts (tick s) c.reference)
        (Config.freeCode (tick s).moment) := by
  rw [tick_frame]
  rfl

theorem Lease.ticked_eq (l : Lease) :
    l.ticked = if l.leaseTick < 1999 then { l with leaseTick := l.leaseTick + 1 } else { l with fallDue := true } := by
  unfold Lease.ticked
  by_cases h : l.leaseTick < 1999
  · rw [if_pos (by omega), if_pos h]
  · rw [if_neg (by omega), if_neg h]

theorem settleTick_eq (n : Nat) (due : Bool) : settleTick n due = if 2 ≤ n then (n - 1, due) else (n, true) := by
  unfold settleTick
  by_cases h : 2 ≤ n
  · rw [if_neg (by omega), if_pos h]
  · rw [if_pos (by omega), if_neg h]

/-- Elapsed counts to the end of the frame and stays there with the boundary due (R65). -/
theorem Timebase.ticked_running {b : Timebase} {t : Timing} {n : Nat}
    (hrun : b.state = .freeRun ∨ b.state = .flywheel ∨ b.state = .locked) (hend : t.frameEnd b.state = n) :
    b.ticked t = if b.elapsed + 1 < n then { b with elapsed := b.elapsed + 1 } else { b with boundaryDue := true } := by
  subst hend
  unfold Timebase.ticked Timebase.counted
  rcases hrun with h | h | h <;> rw [h]

theorem tick_session (s : State) (p : Port) : look (tick s).sessions p = (look s.sessions p).ticked := by
  rw [(tick_fields s).2.2.1, look_tickSessions]

theorem tick_channel (s : State) (ch : Channel) : look (tick s).channels ch = (look s.channels ch).ticked := by
  rw [(tick_fields s).2.2.2.1, look_tickChannels]

theorem tick_reference (s : State) : (tick s).reference = { s.reference with state := s.reference.state.ticked } :=
  (tick_fields s).2.2.2.2.1

theorem tick_timebase (s : State) : (tick s).timebase = s.timebase.ticked s.activeTiming := (tick_fields s).2.2.2.2.2.1

theorem tick_select (h : s.inReset = false) (p : Port) :
    (look s.selectInput p = [] → look (tick s).ports p = look s.ports p ∧ look (tick s).selectInput p = [])
      ∧ ∀ level later, look s.selectInput p = level :: later →
        look (tick s).selectInput p = later
          ∧ look (tick s).ports p = { look s.ports p with
              select := if level = true then .high
                else if (look s.ports p).select = .high then .low (statusByte s p) else (look s.ports p).select } := by
  have hsampled := sampled_select (sampleSync (sampleNow (ticking s))) p
  rw [statusByte_ticked, show (sampleSync (sampleNow (ticking s))).inReset = false from h] at hsampled
  exact hsampled

end Ticks

/-- Settles O3: the choice of an idle step, the conditions of the events, and the counts of a tick one by one. -/
theorem idleTickAdvancesEveryCount : Obligations.IdleTickAdvancesEveryCount := by
  refine ⟨fun s hpending hreset => ⟨step_idle_due hpending hreset, step_idle_ticks hpending hreset, fun hdue hidle => ?_⟩,
    fun s => ?_, ?_⟩
  · rcases step_idle_ticks hpending hreset hdue with h | ⟨p, hp, -⟩
    · exact h
    · simp [hidle p] at hp
  · simp only [mem_dueEvents, reduceCtorEq, and_false, or_false, false_or, and_true, exists_false, Instr.analogSettleEnd.injEq,
      Instr.leaseFall.injEq, Instr.leaseExpiry.injEq, exists_eq_right', ← conversionDue_iff, ← analogSettleDue_iff,
      ← referenceSettleDue_iff, ← countedBoundary_isSome, ← huntingLimitDue_iff, ← phaseArrivalDue_iff, ← leaseFallDue_iff,
      ← leaseExpiryDue_iff, true_and, implies_true]
    rintro c (⟨-, hc⟩ | ⟨x, -, hc⟩ | ⟨-, hc⟩ | ⟨-, hc⟩ | ⟨-, hc⟩ | ⟨-, hc⟩ | ⟨x, -, hc⟩ | ⟨x, -, hc⟩ | ⟨-, hc⟩)
    all_goals simp [hc]
  · rintro s t hreset rfl
    refine ⟨(tick_fields s).2.1, ?_, fun p l hx => ?_, fun p hp => ?_, fun ch o n due hx => ?_, fun ch hx => ?_,
      fun r n due hx => ?_, fun r b hx => ?_, fun n hx => ?_, fun hx => ?_, fun frameEnd hx => ?_, ?_, ?_,
      tick_select hreset, fun c hc hcount hend => ?_, fun c hc h => tick_keeps_flight hc h, (tick_inFlight_none s).mpr, ?_⟩
    · rw [tick_frame]
    · rw [tick_session, ← l.ticked_eq]
      unfold Session.ticked
      rw [hx]
    · rw [tick_session]
      unfold isOpen Session.lease at hp
      unfold Session.ticked
      cases hx : (look s.sessions p).state <;> simp [hx] at hp ⊢
    · rw [tick_channel, hx, ChannelRec.ticked, settleTick_eq]
      split <;> rfl
    · rw [tick_channel]
      cases hc : look s.channels ch with
      | settling o n due => exact absurd hc (hx o n due)
      | free | digital | analog | reference => rfl
    · rw [tick_reference, hx, RefState.ticked, settleTick_eq]
      split <;> rfl
    · rw [tick_reference, hx, RefState.ticked, ← hx]
    · rw [tick_timebase, Timebase.ticked, hx]
    · rw [tick_timebase, Timebase.ticked, hx]
    · rw [tick_timebase]
      rcases hx with ⟨hx | hx, rfl⟩ | ⟨hx, rfl⟩ <;> exact Timebase.ticked_running (by simp [hx]) (by simp [Timing.frameEnd, hx])
    · rw [tick_frame]
    · rw [tick_frame]
    · exact ⟨_, takeSample_tick s c, sampleCode_lt _ _ _ _, tick_samples hc hcount hend⟩
    · rw [tick_frame]

end Sys2Proof.Machine

/-! The port's side of a request (11 R181 to R190): what the decision of each block leaves of the ports, and the next state for
each fate of a frame. -/

namespace Sys2Proof.Machine

/-! ### No decision but OPEN's touches a port -/

section DecisionPorts

variable {s : State} {p : Port} {payload : List Byte} {ch : Channel}

@[simp] theorem refuse_state (st : Status) (s : State) : (refuse st s).1 = s := rfl

@[simp] theorem closeWith_ports : (closeWith p s).1.ports = s.ports := by simp [closeWith]

@[simp] theorem renewWith_ports : (renewWith p payload s).1.ports = s.ports := by
  unfold renewWith
  repeat' split
  all_goals simp

@[simp] theorem claimAnalog_ports : (claimAnalog p ch s).1.ports = s.ports := by
  unfold claimAnalog
  repeat' split
  all_goals simp [claimed]

@[simp] theorem claimDigital_ports : (claimDigital p ch s).1.ports = s.ports := by
  unfold claimDigital
  repeat' split
  all_goals simp [claimed]

@[simp] theorem claimWith_ports : (claimWith p payload s).1.ports = s.ports := by
  unfold claimWith
  repeat' split
  all_goals simp

@[simp] theorem releaseOwned_ports : (releaseOwned ch s).1.ports = s.ports := by
  unfold releaseOwned
  repeat' split
  all_goals simp

@[simp] theorem releaseWith_ports : (releaseWith p payload s).1.ports = s.ports := by
  unfold releaseWith
  repeat' split
  all_goals simp

@[simp] theorem subscribeWith_ports : (subscribeWith p payload s).1.ports = s.ports := by
  unfold subscribeWith
  repeat' split
  all_goals simp

@[simp] theorem unsubscribeWith_ports : (unsubscribeWith p payload s).1.ports = s.ports := by
  unfold unsubscribeWith
  repeat' split
  all_goals simp

@[simp] theorem pinSetupWith_ports : (pinSetupWith p payload s).1.ports = s.ports := by
  unfold pinSetupWith
  repeat' split
  all_goals simp

@[simp] theorem pinDriveWith_ports : (pinDriveWith p payload s).1.ports = s.ports := by
  unfold pinDriveWith
  repeat' split
  all_goals simp

@[simp] theorem pinReadWith_ports : (pinReadWith p payload s).1.ports = s.ports := by
  unfold pinReadWith
  repeat' split
  all_goals simp

@[simp] theorem channelInfoWith_ports : (channelInfoWith payload s).1.ports = s.ports := by
  unfold channelInfoWith
  repeat' split
  all_goals simp

@[simp] theorem claimReferenceWith_ports : (claimReferenceWith p s).1.ports = s.ports := by
  unfold claimReferenceWith
  repeat' split
  all_goals simp

@[simp] theorem releaseReferenceWith_ports : (releaseReferenceWith p s).1.ports = s.ports := by
  unfold releaseReferenceWith
  repeat' split
  all_goals simp

@[simp] theorem selectExternal_ports : (selectExternal s).1.ports = s.ports := by
  unfold selectExternal
  repeat' split
  all_goals simp [selected]

@[simp] theorem selectInternal_ports : (selectInternal s).1.ports = s.ports := by
  unfold selectInternal
  repeat' split
  all_goals simp [selected]

@[simp] theorem selectReferenceWith_ports : (selectReferenceWith p payload s).1.ports = s.ports := by
  unfold selectReferenceWith
  repeat' split
  all_goals simp

@[simp] theorem claimTimebaseWith_ports : (claimTimebaseWith p s).1.ports = s.ports := by
  unfold claimTimebaseWith
  repeat' split
  all_goals simp

@[simp] theorem releaseTimebaseWith_ports : (releaseTimebaseWith p s).1.ports = s.ports := by
  unfold releaseTimebaseWith
  repeat' split
  all_goals simp

@[simp] theorem appendEdit_ports (e : Edit) (more : List Byte) : (appendEdit p e more s).1.ports = s.ports := by
  unfold appendEdit
  simp

@[simp] theorem stageSlot_ports (sl : Slot) : (stageSlot p sl s).1.ports = s.ports := by
  unfold stageSlot
  repeat' split
  all_goals simp

@[simp] theorem stageAddWith_ports : (stageAddWith p payload s).1.ports = s.ports := by
  unfold stageAddWith
  repeat' split
  all_goals simp

@[simp] theorem stageTarget_ports (id : SlotId) (e : Edit) : (stageTarget p id e s).1.ports = s.ports := by
  unfold stageTarget
  repeat' split
  all_goals simp

@[simp] theorem stageMoveWith_ports : (stageMoveWith p payload s).1.ports = s.ports := by
  unfold stageMoveWith
  repeat' split
  all_goals simp

@[simp] theorem stageDropWith_ports : (stageDropWith p payload s).1.ports = s.ports := by
  unfold stageDropWith
  repeat' split
  all_goals simp

@[simp] theorem stageTimingRecord_ports (t : Timing) : (stageTimingRecord p t s).1.ports = s.ports := by
  unfold stageTimingRecord
  dsimp only
  repeat' split
  all_goals simp

@[simp] theorem stageTimingWith_ports : (stageTimingWith p payload s).1.ports = s.ports := by
  unfold stageTimingWith
  repeat' split
  all_goals simp

@[simp] theorem stageClearWith_ports : (stageClearWith p s).1.ports = s.ports := by simp [stageClearWith]

@[simp] theorem commitFailed_ports (st : Status) (n : Nat) : (commitFailed p st n s).1.ports = s.ports := rfl

@[simp] theorem commitCopy_ports (c : PlanCopy) : (commitCopy p c s).1.ports = s.ports := by
  unfold commitCopy
  dsimp only
  split <;> simp [installCopy]

@[simp] theorem commitWith_ports : (commitWith p payload s).1.ports = s.ports := by
  unfold commitWith
  dsimp only
  repeat' split
  all_goals simp

@[simp] theorem planReadWith_ports : (planReadWith payload s).1.ports = s.ports := by
  unfold planReadWith
  repeat' split
  all_goals simp

@[simp] theorem submitEntry_ports (tag : Byte) (a : SubmitArgs) : (submitEntry p tag a s).1.ports = s.ports := by
  unfold submitEntry
  dsimp only
  repeat' split
  all_goals simp [refuseCounted]

@[simp] theorem submitWith_ports : (submitWith p payload s).1.ports = s.ports := by
  unfold submitWith
  repeat' split
  all_goals simp [refuseCounted]

@[simp] theorem cancelWith_ports : (cancelWith p payload s).1.ports = s.ports := by
  unfold cancelWith
  repeat' split
  all_goals simp

@[simp] theorem fetchResultsWith_ports : (fetchResultsWith p payload s).1.ports = s.ports := by
  unfold fetchResultsWith
  repeat' split
  all_goals simp

@[simp] theorem fetchEventsWith_ports : (fetchEventsWith p payload s).1.ports = s.ports := by
  unfold fetchEventsWith
  repeat' split
  all_goals simp

@[simp] theorem peekLatestWith_ports : (peekLatestWith payload s).1.ports = s.ports := by
  unfold peekLatestWith
  repeat' split
  all_goals simp

@[simp] theorem attachTo_ports (a : MonitorArgs) : (attachTo p a s).1.ports = s.ports := by
  unfold attachTo
  repeat' split
  all_goals simp

@[simp] theorem attachMonitorWith_ports : (attachMonitorWith p payload s).1.ports = s.ports := by
  unfold attachMonitorWith
  repeat' split
  all_goals simp

@[simp] theorem detachMonitorWith_ports : (detachMonitorWith p payload s).1.ports = s.ports := by
  unfold detachMonitorWith
  repeat' split
  all_goals simp

@[simp] theorem monitorReadWith_ports : (monitorReadWith payload s).1.ports = s.ports := by
  unfold monitorReadWith
  repeat' split
  all_goals simp

end DecisionPorts

/-! ### The decision behind each request code -/

section Requests

variable {s : State} {p : Port} {code : Byte} {q : LinkSeq} {payload : List Byte} {c : Instr} {f : State → Decision}

/-- A code of the table has one length (11.6.1). -/
theorem requestLengths_unique {m n : Nat} (hm : (code, m) ∈ requestLengths) (hn : (code, n) ∈ requestLengths) : m = n := by
  have unique : ∀ a ∈ requestLengths, ∀ b ∈ requestLengths, a.1 = b.1 → a.2 = b.2 := by decide
  exact unique _ hm _ hn rfl

theorem namesRequest_of_mem {n : Nat} (h : (code, n) ∈ requestLengths) : namesRequest code = true := by
  have named : ∀ a ∈ requestLengths, namesRequest a.1 = true := by decide
  exact named _ h

set_option maxRecDepth 8000 in
theorem namesRequest_eq_false (h : ∀ n, (code, n) ∉ requestLengths) : namesRequest code = false := by
  have listed : ∀ i : Fin 256, namesRequest (BitVec.ofFin i) = true → ∃ a ∈ requestLengths, a.1 = BitVec.ofFin i := by decide
  refine Bool.eq_false_iff.mpr fun hnamed => ?_
  obtain ⟨⟨k, n⟩, hmem, rfl⟩ := listed code.toFin hnamed
  exact h n hmem

/-- Which decision a request of the table meets: IDENTIFY and STATUS change nothing, OPEN is the session unit's own, and every
other request goes through the session unit's table to a block that leaves the ports alone (R169, R190). -/
inductive RequestKind (p : Port) (code : Byte) (payload : List Byte) : (State → Decision) → Prop
  | reads (hcode : code = 0x01 ∨ code = 0x05) (f) (hf : ∀ x, (f x).1 = x) : RequestKind p code payload f
  | opens (hcode : code = 0x02) : RequestKind p code payload (openWith p payload)
  | owned (hcode : code ≠ 0x01 ∧ code ≠ 0x02 ∧ code ≠ 0x05) (g) (hg : ∀ x, (g x).1.ports = x.ports) :
      RequestKind p code payload (inSession p g)

/-- A well-formed new frame names no request and is answered so, or is a request of the table. -/
theorem exec_request (s : State) (hc : frameOf c = some (p, code, q, payload)) (hw : wellFormed c = true) :
    (namesRequest code = false ∧ exec c s = .next (takeFrame p q code payload (refuse .unknownRequest) s))
      ∨ ∃ n f, (code, n) ∈ requestLengths ∧ RequestKind p code payload f ∧ exec c s = takeRequest p q code n payload f s := by
  cases c <;> simp only [frameOf, Option.some.injEq, Prod.mk.injEq, reduceCtorEq] at hc <;>
    obtain ⟨rfl, rfl, rfl, rfl⟩ := hc
  case unknownRequest =>
    simp only [wellFormed, Bool.and_eq_true, bne_iff_ne, Bool.not_eq_true'] at hw
    refine .inl ⟨hw.2, ?_⟩
    show execUnknownRequest _ _ _ _ _ = _
    unfold execUnknownRequest
    rw [if_neg (by simp [hw])]
  all_goals right
  case identify | status => exact ⟨_, _, by decide, .reads (by decide) _ fun _ => rfl, rfl⟩
  case openSession => exact ⟨_, _, by decide, .opens rfl, rfl⟩
  all_goals exact ⟨_, _, by decide, .owned (by decide) _ fun _ => by simp, rfl⟩

/-! ### What a new frame leaves -/

@[simp] theorem opened_ports (p : Port) (a : OpenArgs) (s : State) :
    (opened p a s).ports = put s.ports p { look s.ports p with resetSeen := false } := by simp [opened]

theorem openWith_ports :
    (openWith p payload s).1.ports = s.ports
      ∨ (openWith p payload s).1.ports = put s.ports p { look s.ports p with resetSeen := false } := by
  unfold openWith
  repeat' split
  all_goals simp

/-- A new frame leaves its port carrying the answer of a decision that wrote at most Reset Seen, and the other ports as they
were (R181, R190). -/
theorem takeFrame_leaves (h : takesNew s p code q payload) {b : Bool}
    (hf : (f (taken s p code q payload)).1.ports
      = put s.ports p { look (taken s p code q payload).ports p with resetSeen := b }) :
    ∃ a, look (takeFrame p q code payload f s).ports p = { carrying s p code q payload a with resetSeen := b }
      ∧ otherPortsSame s (takeFrame p q code payload f s) p := by
  refine ⟨(f (taken s p code q payload)).2, ?_, fun x hx => ?_⟩ <;> rw [takeFrame_fresh h, startProcessing, setPort_ports, hf]
  · simp [taken, carrying]
  · rw [look_put_other _ hx, look_put_other _ hx]

theorem takeFrame_leaves_same (h : takesNew s p code q payload)
    (hf : (f (taken s p code q payload)).1.ports = (taken s p code q payload).ports) :
    ∃ a, look (takeFrame p q code payload f s).ports p = carrying s p code q payload a
      ∧ otherPortsSame s (takeFrame p q code payload f s) p := by
  refine takeFrame_leaves (b := (look s.ports p).resetSeen) h (hf.trans ?_)
  simp [taken]

/-- Only OPEN's decision touches its port, and there only Reset Seen. -/
theorem RequestKind.ports (h : RequestKind p code payload f) (s : State) :
    (f s).1.ports = s.ports
      ∨ code = 0x02 ∧ (f s).1.ports = put s.ports p { look s.ports p with resetSeen := false } := by
  cases h with
  | reads _ _ hf => exact .inl (by rw [hf])
  | opens hcode => exact openWith_ports.imp id fun h => ⟨hcode, h⟩
  | owned _ g hg =>
    left
    unfold inSession
    split
    · exact hg s
    all_goals rfl

end Requests

/-- Settles O5, by the decision behind the frame: only that of OPEN writes a field of its port, Reset Seen. -/
theorem newRequestTaken : Obligations.NewRequestTaken := by
  intro c p code q payload s hc hw h
  have leaves_same : ∀ {f : State → Decision}, exec c s = .next (takeFrame p q code payload f s) →
      (f (taken s p code q payload)).1.ports = (taken s p code q payload).ports → ∃ t a, exec c s = .next t
        ∧ look t.ports p = { carrying s p code q payload a with resetSeen := (look t.ports p).resetSeen }
        ∧ (code ≠ 0x02 → (look t.ports p).resetSeen = (look s.ports p).resetSeen) ∧ otherPortsSame s t p := by
    intro f he hf
    obtain ⟨a, hp, hothers⟩ := takeFrame_leaves_same h hf
    refine ⟨_, a, he, ?_, fun _ => ?_, hothers⟩ <;> rw [hp]
    rfl
  rcases exec_request s hc hw with ⟨-, he⟩ | ⟨n, f, -, hkind, he⟩
  · exact leaves_same he rfl
  · by_cases hlen : payload.length = n
    · rcases hkind.ports (taken s p code q payload) with hf | ⟨hcode, hf⟩
      · exact leaves_same he (by simpa [hlen] using hf)
      · obtain ⟨a, hp, hothers⟩ := takeFrame_leaves (b := false)
          (f := fun x => if payload.length = n then f x else refuse .badLength x) h (by simpa [hlen, taken] using hf)
        refine ⟨_, a, he, ?_, fun hne => absurd hcode hne, hothers⟩
        rw [hp]
    · exact leaves_same he (by simp [hlen])

/-- Settles O7: a code outside the table names no request, and a code of the table has one length. -/
theorem portAnswersUnknownAndBadLength : Obligations.PortAnswersUnknownAndBadLength := by
  refine ⟨fun p q code payload s h hcollect hcode => ?_, fun c p code n q payload s hc hw h hcode hlen => ?_⟩
  · show execUnknownRequest _ _ _ _ _ = _
    unfold execUnknownRequest
    rw [if_neg (by simp [hcollect, namesRequest_eq_false hcode]), takeFrame_fresh h]
    exact congrArg _ (startProcessing_answered rfl)
  · rcases exec_request s hc hw with ⟨hunnamed, -⟩ | ⟨m, f, hm, -, he⟩
    · exact absurd (namesRequest_of_mem hcode) (by simp [hunnamed])
    · rw [he, requestLengths_unique hm hcode]
      exact takeRequest_badLength h hlen

theorem inSession_revoked {p : Port} {f : State → Decision} {s : State} (h : (look s.sessions p).state = .revoked) :
    inSession p f s = refuse .revoked s := by
  unfold inSession
  rw [h]

theorem inSession_closed {p : Port} {f : State → Decision} {s : State} (h : (look s.sessions p).state = .closed) :
    inSession p f s = refuse .noSession s := by
  unfold inSession
  rw [h]

/-- Settles O8: every request but IDENTIFY, STATUS and OPEN goes through the session unit's table. -/
theorem sessionStateAnswers : Obligations.SessionStateAnswers := by
  intro c p code q payload s hc h hcode hw hidentify hopen hstatus
  rcases exec_request s hc hw with ⟨hunnamed, -⟩ | ⟨n, f, hn, hkind, he⟩
  · exact absurd (namesRequest_of_mem hcode) (by simp [hunnamed])
  · have hlen := requestLengths_unique hcode hn
    cases hkind with
    | reads hread => exact absurd hread (not_or.mpr ⟨hidentify, hstatus⟩)
    | opens h => exact absurd h hopen
    | owned =>
      rw [he]
      exact ⟨fun hx => takeRequest_answered h hlen (inSession_revoked hx),
        fun hx => takeRequest_answered h hlen (inSession_closed hx)⟩

end Sys2Proof.Machine

/-! Frames that are not carried out, replies, collect transactions and the status byte (11 R181 to R191). -/

namespace Sys2Proof.Machine

section Fates

variable {s : State} {p : Port} {code : Byte} {q : LinkSeq} {payload bytes : List Byte} {lp : LinkPort} {c : Instr} {n : Nat}

theorem frameFate_overrun (h : lp.processing.isSome = true) : frameFate lp code q payload = .overrun := by
  unfold frameFate LinkPort.busy
  rw [if_pos h]

theorem frameFate_again (hb : lp.processing = none) (hl : payload.length ≤ 16)
    (hf : lp.lastFrame = some (lastFrameOf code q payload)) : frameFate lp code q payload = .again := by
  unfold frameFate LinkPort.busy
  rw [if_neg (by simp [hb]), if_neg (by omega), if_pos hf]

/-- The port after a request transaction of a byte and `n` more (R182, R184). -/
def shifted (s : State) (p : Port) (n : Nat) : LinkPort :=
  { look s.ports p with select := .high, sdo := capturedStatus s p :: List.replicate n 0x00 }

theorem shiftOut_eq (s : State) (p : Port) (n : Nat) :
    shiftOut p n s = { s with ports := put s.ports p (shifted s p (n - 1)) } := by
  simp [shiftOut, setPort, shifted]

/-- A frame that names its port, and that the port is to hear: a new frame, or a retransmission (R182, R189). -/
def arrives (c : Instr) (p : Port) (q : LinkSeq) (code : Byte) (payload : List Byte) : Prop :=
  (frameOf c = some (p, code, q, payload) ∧ wellFormed c = true) ∨ (c = .retransmission p q code payload ∧ code ≠ collectCode)

/-- A frame that is not new meets its port's rows of R188 and R189, whether it is sent as new or as a retransmission. -/
theorem exec_arrives (h : arrives c p q code payload) (hh : hears s p = true)
    (hfate : frameFate (shifted s p (3 + payload.length)) code q payload ≠ .fresh) :
    ∃ f, exec c s = .next (takeFrame p q code payload f s) := by
  rcases h with ⟨hc, hw⟩ | ⟨rfl, hcode⟩
  · exact exec_frame s hc hw
  · refine ⟨refuse .ok, ?_⟩
    show execRetransmission _ _ _ _ _ = _
    have hlen : 4 + payload.length - 1 = 3 + payload.length := by omega
    unfold execRetransmission takeFrame
    rw [if_neg (by simpa using hcode), if_neg (by simp [hh]), if_neg (by simp [hh]), shiftOut_eq, hlen]
    simp only [look_put_same]
    split <;> simp_all

theorem takeFrame_discards {f : State → Decision} (hh : hears s p = true) :
    (frameFate (shifted s p (3 + payload.length)) code q payload = .overrun →
        takeFrame p q code payload f s = { s with ports := put s.ports p (shifted s p (3 + payload.length)).overran })
      ∧ (frameFate (shifted s p (3 + payload.length)) code q payload = .again →
        takeFrame p q code payload f s = { s with ports := put s.ports p (shifted s p (3 + payload.length)).took }) := by
  have hlen : 4 + payload.length - 1 = 3 + payload.length := by omega
  unfold takeFrame
  rw [if_neg (by simp [hh]), shiftOut_eq, hlen]
  simp only [look_put_same]
  refine ⟨fun h => ?_, fun h => ?_⟩ <;> rw [h] <;> simp [setPort]

/-! ### Damage -/

/-- Bytes that are not a whole frame are damaged in one of the ways of R188. -/
theorem wholeFrame_eq_none (h : damagedBytes bytes) : wholeFrame bytes = none := by
  match bytes with
  | [] | [_] | [_, _] => rfl
  | code :: control :: len :: rest =>
    refine if_neg ?_
    rintro ⟨hlen, hcount, hcrc, hcontrol⟩
    have hsplit : rest.dropLast = rest.take len.toNat := by rw [List.dropLast_eq_take, hcount]; rfl
    have hne : rest ≠ [] := by
      rintro rfl
      simp at hcount
    rcases h with h | h | h | h | h
    · simp at h
      omega
    · exact absurd h (by simpa using hlen)
    · simp [hcount] at h
      omega
    · refine h ?_
      rw [← hsplit] at hcrc
      simpa [List.dropLast_cons_of_ne_nil, List.getLast?_cons_of_ne_nil, hne] using hcrc
    · exact absurd h (by simpa using hcontrol)

theorem exec_frameDiscarded (hne : bytes ≠ []) (hhead : bytes.head? ≠ some collectCode) (hh : hears s p = true) :
    ((look s.ports p).processing.isSome = true →
        exec (.frameDiscarded p bytes) s
          = .next { s with ports := put s.ports p (shifted s p (bytes.length - 1)).overran })
      ∧ ((look s.ports p).processing = none → damagedBytes bytes →
        exec (.frameDiscarded p bytes) s
          = .next { s with ports := put s.ports p (shifted s p (bytes.length - 1)).damaged }) := by
  have heard : exec (.frameDiscarded p bytes) s
      = if (look s.ports p).processing.isSome = true then
          .next { s with ports := put s.ports p (shifted s p (bytes.length - 1)).overran }
        else if (wholeFrame bytes).isNone = true then
          .next { s with ports := put s.ports p (shifted s p (bytes.length - 1)).damaged }
        else .next s := by
    show execFrameDiscarded _ _ _ = _
    unfold execFrameDiscarded
    rw [if_neg (by simpa [hne] using hhead), if_neg (by simp [hh]), shiftOut_eq]
    simp only [look_put_same]
    rw [show (shifted s p (bytes.length - 1)).busy = (look s.ports p).processing.isSome from rfl]
    simp [setPort]
  exact ⟨fun hbusy => heard.trans (if_pos hbusy), fun hidle hdamaged => by
    rw [heard, if_neg (by simp [hidle]), if_pos (by simp [wholeFrame_eq_none hdamaged])]⟩

end Fates

/-- Settles O6: the rows of R188 and R189 in their order, each as what it makes of the port. -/
theorem framesNotCarriedOut : Obligations.FramesNotCarriedOut := by
  refine ⟨fun c p code q payload s hc hh hbusy => ?_, fun p bytes s hne hhead hh hbusy => ?_,
    fun p bytes s hne hhead hh hidle hdamaged => ?_, fun c p code q payload s hc hh hidle hlen hlast => ?_⟩
  · have hfate := frameFate_overrun (lp := shifted s p (3 + payload.length)) (code := code) (q := q) (payload := payload) hbusy
    obtain ⟨f, he⟩ := exec_arrives hc hh (by simp [hfate])
    rw [he, (takeFrame_discards hh).1 hfate]
    rfl
  · exact (exec_frameDiscarded hne hhead hh).1 hbusy
  · exact (exec_frameDiscarded hne hhead hh).2 hidle hdamaged
  · have hfate := frameFate_again (lp := shifted s p (3 + payload.length)) (code := code) (q := q) hidle hlen hlast
    obtain ⟨f, he⟩ := exec_arrives hc hh (by simp [hfate])
    rw [he, (takeFrame_discards hh).2 hfate]
    rfl

end Sys2Proof.Machine

/-! Replies, collect transactions, the status byte, CRC-8 and the bytes of a transaction (11 R181 to R191). -/

namespace Sys2Proof.Machine

/-! ### Replies and collect transactions -/

section Replies

variable {s : State} {p : Port} {pr : Processing} {reply : List Byte} {count : Nat}

theorem storeReply_eq (h : (look s.ports p).processing = some pr) :
    storeReply p s = { s with
      ports := put s.ports p { look s.ports p with
        storedReply := some (replyFrame (builtAnswer s p pr.answer).1 pr.code pr.seq (builtAnswer s p pr.answer).2)
        processing := none }
      moment := momentAfter pr.answer s.moment } := by
  unfold storeReply
  rw [h]
  rfl

/-- Settles O9: the reply frame is built where the processing ends. -/
theorem replyStoredForCollection : Obligations.ReplyStoredForCollection := by
  refine ⟨fun _ _ _ _ => rfl, by decide, fun p s pr h => ⟨_, _, rfl, rfl, ?_, fun x hx => ?_, ?_⟩⟩ <;> rw [storeReply_eq h]
  · rw [look_put_same]
    rfl
  · exact look_put_other _ hx _

/-- What the port shifts out after the status byte: the Stored Reply where Reply Ready is set, else 0xFF (R183). -/
theorem collected_ready {lp : LinkPort} (hr : lp.storedReply = some reply) (hb : lp.processing = none) :
    collected lp count = reply ++ List.replicate count 0xFF := by
  unfold collected LinkPort.busy
  rw [hr]
  exact if_neg (by simp [hb])

theorem collected_notReady {lp : LinkPort} (h : lp.storedReply = none ∨ lp.processing.isSome = true) :
    collected lp count = List.replicate count 0xFF := by
  unfold collected LinkPort.busy
  rcases h with h | h
  · rw [h]
  · split
    · exact if_pos h
    · rfl

theorem exec_collect (lands : Bool) (hc : 0 < count) (hh : hears s p = true) {u : State}
    (hu : (if lands then storeReply p s else s) = u) :
    exec (.collectTransaction p lands count) s = .next { u with ports := put u.ports p { look u.ports p with
      select := .high, sdo := (capturedStatus s p :: collected (look u.ports p) count).take count } } := by
  subst hu
  show execCollectTransaction _ _ _ _ = _
  unfold execCollectTransaction
  rw [if_neg (by simp; omega), if_neg (by simp [hh])]
  rfl

theorem storeReply_idle (p : Port) (s : State) : (look (storeReply p s).ports p).processing = none := by
  unfold storeReply
  split
  · assumption
  · simp

end Replies

/-- Settles O10, by what Reply Ready makes of the bytes shifted out. -/
theorem collectReturnsStoredReply : Obligations.CollectReturnsStoredReply := by
  intro p count s hc hh
  refine ⟨fun reply hr hb => ?_, fun hr => ?_, fun u reply hu hr => ?_⟩
  · rw [exec_collect false hc hh rfl]
    simp only [Bool.false_eq_true, if_false, collected_ready hr hb, List.cons_append]
  · obtain ⟨n, rfl⟩ := Nat.exists_eq_add_of_lt hc
    rw [exec_collect false hc hh rfl]
    simp [collected_notReady hr]
  · obtain rfl : storeReply p s = u := by simpa [exec, execReplyStored] using hu
    rw [exec_collect true hc hh rfl]
    simp only [if_true, collected_ready hr (storeReply_idle p s), List.cons_append]

/-! ### The status byte -/

/-- Each bit of the status byte is the flag that the sum gives its weight to (R185). -/
theorem byte_flags : ∀ ready alert error overrun mark seen : Bool, ∀ session ∈ [0, 16, 32],
    let b := byte ((if ready then 128 else 0) + (if alert then 64 else 0) + session + (if error then 8 else 0)
      + (if overrun then 4 else 0) + (if mark then 2 else 0) + (if seen then 1 else 0))
    b.getLsbD 7 = ready ∧ b.getLsbD 6 = alert ∧ b.getLsbD 5 = (session == 32) ∧ b.getLsbD 4 = (session == 16)
      ∧ b.getLsbD 3 = error ∧ b.getLsbD 2 = overrun ∧ b.getLsbD 1 = mark ∧ b.getLsbD 0 = seen := by decide

section StatusBits

variable {s : State} {p : Port}

/-- The weight of the session state in the status byte (R185). -/
def sessionBits : SessionState → Nat
  | .closed => 0
  | .opened _ => 16
  | .revoked => 32

theorem sessionBits_mem (x : SessionState) : sessionBits x ∈ [0, 16, 32] := by
  cases x <;> simp [sessionBits]

theorem revoked_iff_sessionBits : (sessionBits (look s.sessions p).state == 32) = true ↔ (look s.sessions p).state = .revoked := by
  cases (look s.sessions p).state <;> simp [sessionBits]

theorem isOpen_eq_sessionBits : (sessionBits (look s.sessions p).state == 16) = isOpen s p := by
  unfold isOpen Session.lease
  cases (look s.sessions p).state <;> rfl

theorem statusByte_eq (s : State) (p : Port) :
    statusByte s p = byte ((if (look s.ports p).replyReady then 128 else 0) + (if alert s p then 64 else 0)
      + sessionBits (look s.sessions p).state + (if (look s.ports p).frameError then 8 else 0)
      + (if (look s.ports p).overrun then 4 else 0) + (if atWatermark s p then 2 else 0)
      + (if (look s.ports p).resetSeen then 1 else 0)) := by
  unfold statusByte sessionBits
  rfl

theorem replyReady_iff :
    (look s.ports p).replyReady = true
      ↔ (look s.ports p).storedReply.isSome = true ∧ (look s.ports p).processing = none := by
  simp [LinkPort.replyReady, LinkPort.busy]

theorem atWatermark_iff : atWatermark s p = true
    ↔ ∃ l, (look s.sessions p).state = .opened l ∧ l.watermark ≤ (look s.results p).records.length := by
  unfold atWatermark Session.lease
  cases (look s.sessions p).state <;> simp

theorem alert_iff : alert s p = true ↔ (look s.sessions p).state = .revoked
    ∨ isOpen s p = true ∧ ((look s.events p).records ≠ [] ∨ atWatermark s p = true) := by
  unfold alert isOpen Session.lease
  cases (look s.sessions p).state <;> simp

theorem sdoDriven_iff : sdoDriven s p = true ↔ s.inReset = false ∧ ∃ b, (look s.ports p).select = .low b := by
  unfold sdoDriven
  cases (look s.ports p).select <;> simp

end StatusBits

/-- Settles O11: the bits by their weights, ALERT and the watermark by the session's state. -/
theorem statusByteAndAlert : Obligations.StatusByteAndAlert := by
  intro s p
  have bits := byte_flags (look s.ports p).replyReady (alert s p) (look s.ports p).frameError (look s.ports p).overrun
    (atWatermark s p) (look s.ports p).resetSeen _ (sessionBits_mem (look s.sessions p).state)
  rw [← statusByte_eq] at bits
  obtain ⟨hready, halert, hrevoked, hopen, herror, hoverrun, hmark, hseen⟩ := bits
  refine ⟨?_, halert, ?_, ?_, herror, hoverrun, hmark, hseen, atWatermark_iff, alert_iff, fun b hb => ?_, fun hb => ?_,
    sdoDriven_iff, by simp [hears], isOpen_iff⟩
  · rw [hready, replyReady_iff]
  · rw [hrevoked, revoked_iff_sessionBits]
  · rw [hopen, isOpen_eq_sessionBits]
  all_goals rw [capturedStatus, hb]

/-! ### CRC-8 -/

/-- The register holds 0 after a byte equal to it (R187). -/
theorem crcByte_self (r : Byte) : crcByte r r = 0 := by
  unfold crcByte
  rw [BitVec.xor_self]
  decide

set_option maxRecDepth 4000 in
/-- The manual's check value and its two worked frames (R187). -/
theorem crc8_worked :
    crc8 [0x31, 0x32, 0x33, 0x34, 0x35, 0x36, 0x37, 0x38, 0x39] = 0xF4 ∧ requestFrame 0x01 0 [] = [0x01, 0x00, 0x00, 0x6B]
      ∧ requestFrame 0x04 3 [0x00, 0x02] = [0x04, 0x03, 0x02, 0x00, 0x02, 0x6D] := by decide

/-- Settles O12: CRC-8 as a fold over the bytes, and the worked frames. -/
theorem crcOfFrames : Obligations.CrcOfFrames := by
  obtain ⟨hcheck, hidentify, hrenew⟩ := crc8_worked
  refine ⟨hcheck, hidentify, hrenew, fun bytes => ?_, rfl, fun bytes b => ?_, fun b => ?_, fun _ _ _ => ⟨rfl, rfl, rfl⟩⟩
  · unfold crc8
    rw [List.foldl_append]
    exact crcByte_self _
  · unfold crc8
    rw [List.foldl_append]
    simp [crcByte]
  · simp [crc8, crcByte, crcShift, List.range, List.range.loop]

end Sys2Proof.Machine

/-! The bits of a transaction and the command they make (11 R182, R186 to R188, R190), and the device reset (11 R181). -/

namespace Sys2Proof.Machine

/-! ### From bits to bytes -/

set_option maxRecDepth 8000 in
theorem byteOfBits_getLsbD (b : Byte) :
    byteOfBits (b.getLsbD 7) (b.getLsbD 6) (b.getLsbD 5) (b.getLsbD 4) (b.getLsbD 3) (b.getLsbD 2) (b.getLsbD 1)
      (b.getLsbD 0) = b := by
  have all : ∀ i : Fin 256, let b : Byte := BitVec.ofFin i
      byteOfBits (b.getLsbD 7) (b.getLsbD 6) (b.getLsbD 5) (b.getLsbD 4) (b.getLsbD 3) (b.getLsbD 2) (b.getLsbD 1)
        (b.getLsbD 0) = b := by decide
  exact all b.toFin

theorem wholeBytes_short : ∀ {bits : List Bool}, bits.length < 8 → wholeBytes bits = []
  | [], _ | [_], _ | [_, _], _ | [_, _, _], _ | [_, _, _, _], _ | [_, _, _, _, _], _ | [_, _, _, _, _, _], _
  | [_, _, _, _, _, _, _], _ => rfl
  | _ :: _ :: _ :: _ :: _ :: _ :: _ :: _ :: _, h => by simp at h; omega

/-- The bits of whole bytes, and less than eight more, count as those bytes (R182). -/
theorem wholeBytes_bits (bytes : List Byte) {tail : List Bool} (h : tail.length < 8) :
    wholeBytes (bytes.flatMap byteBits ++ tail) = bytes := by
  induction bytes with
  | nil => exact wholeBytes_short h
  | cons b bytes ih =>
    show byteOfBits _ _ _ _ _ _ _ _ :: wholeBytes (bytes.flatMap byteBits ++ tail) = _
    rw [ih, byteOfBits_getLsbD]

/-! ### From bytes to a command -/

theorem wholeFrame_requestFrame (code : Byte) (q : LinkSeq) {payload : List Byte} (h : payload.length ≤ 16) :
    wholeFrame (requestFrame code q payload) = some (code, q, payload) := by
  have hlen : (BitVec.ofNat 8 payload.length).toNat = payload.length := by
    simp
    omega
  have hq : q.toNat % 256 < 16 := by
    have := q.isLt
    omega
  show (if _ then _ else _) = _
  rw [if_pos (by simpa [hlen, hq, frameBody] using h)]
  simp [hlen]

/-- A well-formed new frame's payload fits, its code opens no collect transaction, and its code names the command. -/
theorem frame_decodes {c : Instr} {p : Port} {code : Byte} {q : LinkSeq} {payload : List Byte}
    (hc : frameOf c = some (p, code, q, payload)) (hw : wellFormed c = true) :
    payload.length ≤ 16 ∧ code ≠ collectCode
      ∧ (match requestOf code with
          | some request => some (request p q payload)
          | none => some (.unknownRequest p q code payload)) = some c := by
  cases c <;> simp only [frameOf, Option.some.injEq, Prod.mk.injEq, reduceCtorEq] at hc <;>
    obtain ⟨rfl, rfl, rfl, rfl⟩ := hc
  case unknownRequest =>
    simp only [wellFormed, Bool.and_eq_true, bne_iff_ne, Bool.not_eq_true', payloadFits, decide_eq_true_eq, namesRequest,
      Option.isSome_eq_false_iff, Option.isNone_iff_eq_none] at hw
    obtain ⟨⟨hfits, hcode⟩, hnone⟩ := hw
    exact ⟨hfits, hcode, by rw [hnone]⟩
  all_goals exact ⟨by simpa [wellFormed, payloadFits] using hw, by decide, rfl⟩

theorem transactionCommand_requestFrame {c : Instr} {p : Port} {code : Byte} {q : LinkSeq} {payload : List Byte}
    (hc : frameOf c = some (p, code, q, payload)) (hw : wellFormed c = true) :
    transactionCommand p (requestFrame code q payload) = some c := by
  obtain ⟨hfits, hcode, hdecodes⟩ := frame_decodes hc hw
  have hframe := wholeFrame_requestFrame code q hfits
  unfold requestFrame frameBody at hframe ⊢
  unfold transactionCommand
  simp only [List.cons_append] at hframe ⊢
  rw [if_neg hcode, hframe]
  exact hdecodes

/-- Settles O13: eight bits make a byte again, and the bytes of a frame its command. -/
theorem transactionBytesGiveCommand : Obligations.TransactionBytesGiveCommand := by
  refine ⟨rfl, fun b => rfl, fun c p code q payload tail hc hw htail => ?_, fun p bits h => ?_, fun p bytes tail htail => ?_⟩
  · have hcommand := transactionCommand_requestFrame hc hw
    refine ⟨hcommand, ?_⟩
    rw [transactionOfBits, wholeBytes_bits _ htail, hcommand]
  · rw [transactionOfBits, wholeBytes_short h]
    rfl
  · refine ⟨wholeBytes_bits bytes htail, ?_⟩
    rw [transactionOfBits, wholeBytes_bits _ htail]
    rfl

/-! ### The device reset -/

theorem ports_resetBy (cause : ResetCause) (s : State) (p : Port) :
    look (resetBy cause s).ports p = { LinkPort.reset with select := (look s.ports p).select.atReset } :=
  look_map _ _ p

theorem atReset_eq (x : Select) : x.atReset = if x = .high then .high else .ignored := by
  cases x <;> rfl

theorem resetBy_port (cause : ResetCause) (s : State) (p : Port) :
    look (resetBy cause s).sessions p = { state := .closed, previousRevoked := false }
      ∧ look (resetBy cause s).ports p = { storedReply := none, lastFrame := none, processing := none, frameError := false,
                                           overrun := false, resetSeen := true, linkErrors := 0,
                                           select := if (look s.ports p).select = .high then .high else .ignored, sdo := [] }
      ∧ sdoDriven (resetBy cause s) p = false
      ∧ look (resetBy cause s).results p = { records := [], nextSequence := 0, overflow := 0 }
      ∧ look (resetBy cause s).events p = { records := [], lost := 0 }
      ∧ look (resetBy cause s).requests p = [] ∧ look (resetBy cause s).staging p = []
      ∧ look (resetBy cause s).noted p = false
      ∧ alert (resetBy cause s) p = false ∧ statusByte (resetBy cause s) p = 0x01 := by
  have hsession : look (resetBy cause s).sessions p = { state := .closed, previousRevoked := false } := by
    simp [resetBy, State.reset]
  have hport : look (resetBy cause s).ports p = _ := ports_resetBy cause s p
  have halert : alert (resetBy cause s) p = false := by simp [alert, hsession]
  have hmark : atWatermark (resetBy cause s) p = false := by simp [atWatermark, hsession, Session.lease]
  refine ⟨hsession, ?_, rfl, ?_, ?_, ?_, ?_, ?_, halert, ?_⟩
  · rw [hport, atReset_eq]
    rfl
  · simp [resetBy, State.reset]
  · simp [resetBy, State.reset]
  · simp [resetBy, State.reset]
  · simp [resetBy, State.reset]
  · simp [resetBy, State.reset]
  · rw [statusByte_eq, hport, halert, hmark, hsession]
    rfl

/-- A port that hears nothing lets its select rise, and no transaction has another effect (R181). -/
theorem exec_unheard {c : Instr} {p : Port} {s : State} (hh : hears s p = false) (hw : wellFormed c = true)
    (hc : (∃ k q b, frameOf c = some (p, k, q, b)) ∨ (∃ l n, c = .collectTransaction p l n)
      ∨ (∃ b, c = .frameDiscarded p b) ∨ ∃ q k b, c = .retransmission p q k b) :
    exec c s = .next (releaseSelect p s) := by
  rcases hc with ⟨k, q, b, hf⟩ | ⟨l, n, rfl⟩ | ⟨b, rfl⟩ | ⟨q, k, b, rfl⟩
  · obtain ⟨f, he⟩ := exec_frame s hf hw
    rw [he, takeFrame_unheard f hh]
  · show execCollectTransaction _ _ _ _ = _
    have hn : 0 < n := by simpa [wellFormed] using hw
    unfold execCollectTransaction
    rw [if_neg (by simp; omega), if_pos (by simp [hh])]
  · show execFrameDiscarded _ _ _ = _
    unfold execFrameDiscarded
    rw [if_neg (by simpa [wellFormed] using hw), if_pos (by simp [hh])]
  · show execRetransmission _ _ _ _ _ = _
    have hk : payloadFits b = true ∧ k ≠ collectCode := by simpa [wellFormed] using hw
    unfold execRetransmission
    rw [if_neg (by simpa using hk.2), if_pos (by simp [hh])]

theorem hears_eq_false {s : State} {p : Port} (h : s.inReset = true ∨ (look s.ports p).select = .ignored) :
    hears s p = false := by
  rcases h with h | h <;> simp [hears, h]

/-- Settles O4: the reset values block by block, a port that hears nothing, and the selects sampled during a reset. -/
theorem deviceResetAndItsEnd : Obligations.DeviceResetAndItsEnd := by
  refine ⟨fun cause s => ⟨resetBy cause s, rfl, rfl, rfl, fun p => ?_, fun ch => ?_, fun m => ?_, rfl, rfl, rfl, rfl, rfl, rfl,
      rfl, rfl, rfl, fun id => ?_, rfl, rfl, rfl, rfl, rfl, rfl⟩, fun s => rfl, fun c p s hh hw hc => ?_,
    fun s hpending hreset => ?_⟩
  · exact resetBy_port cause s p
  · simp [resetBy, State.reset]
  · simp [resetBy, State.reset]
  · simp [isFreeId, isReserved, inNext, inActive, resetBy, State.reset, reservedIds]
  · exact exec_unheard (hears_eq_false hh) hw hc
  · refine ⟨sampleSelects s, ?_, sampleSelects_frame s, fun p => ?_⟩
    · unfold step idleStep
      rw [hpending]
      exact if_pos hreset
    · have hsampled := sampled_select s p
      rw [hreset] at hsampled
      exact hsampled

end Sys2Proof.Machine

/-! The end of a session, by CLOSE and by expiry: what the teardown leaves, and the decision after it (10 R175 to R177). -/

namespace Sys2Proof.Machine

section Ended

variable {s : State} {p : Port} {left : SessionState}

/-- The session's State has left OPEN: the state on which the blocks tear down (10 R177). -/
abbrev departed (p : Port) (left : SessionState) (s : State) : State :=
  setSession p { look s.sessions p with state := left } s

theorem afterCancelled_departed {x : Port} (hx : x ≠ p) (gone : List RequestEntry) :
    afterCancelled (departed p left s) x gone = afterCancelled s x gone := by
  unfold afterCancelled
  rw [setSession_sessions, look_put_other _ hx]
  rfl

theorem isOpen_departed {x : Port} (hx : x ≠ p) : isOpen (departed p left s) x = isOpen s x := by
  unfold isOpen
  rw [setSession_sessions, look_put_other _ hx]

theorem holder_afterEnd (r : Reference) (p : Port) (idle : Bool) :
    (r.holder ≠ some p → r.afterEnd p idle = r)
      ∧ (r.holder = some p → r.afterEnd p idle = { state := r.state.reverted idle, holder := none }) :=
  ⟨fun h => if_neg h, fun h => if_pos h⟩

/-- The reference unit's part of a session end, by the State of the reference (03 R56, R61). -/
theorem referenceAfterEnd_teardown : referenceAfterEnd s (teardown p (departed p left s)) p := by
  have hrecord : (teardown p (departed p left s)).reference = s.reference.afterEnd p s.inFlight.isNone := by simp
  have hchannel : ∀ ch, look (teardown p (departed p left s)).channels ch
      = if ch = 11 ∧ withdrawsAtEnd s.reference p then .free else channelAfterEnd p (look s.channels ch) :=
    fun ch => look_teardown_channels _ ch
  obtain ⟨hkeeps, hloses⟩ := holder_afterEnd s.reference p s.inFlight.isNone
  refine ⟨fun hh => hrecord.trans (hkeeps hh), fun hh => ?_, fun ch hch => ?_⟩
  · rw [hrecord, hloses hh]
    refine ⟨rfl, fun hx => ?_, fun hx => ⟨?_, ?_⟩, fun hx => ?_, fun hx => ?_, fun n due hx => ?_, fun n due hx => ?_⟩
    case refine_3 => rw [hchannel, if_pos ⟨rfl, hh, hx⟩]
    all_goals simp [hx, RefState.reverted]
  · rw [hchannel, if_neg]
    rintro ⟨heleven, hholds, hwaits⟩
    rcases hch with h | h | h
    · exact h heleven
    · exact h hholds
    · exact h hwaits

/-- The fields that the teardown writes as a whole, and those that its tables change (10 R177). -/
theorem teardown_departed :
    teardown p (departed p left s) = { s with
      sessions := put s.sessions p { look s.sessions p with state := left }
      staging := put s.staging p []
      noted := put s.noted p false
      nextPlan := s.nextPlan.filter fun sl => sl.owner != p
      activePlan := s.activePlan.map fun a => if a.slot.owner = p then
          { a with void := true, progress := if a.progress = .pending then .done else a.progress } else a
      timebase := { s.timebase with holder := if s.timebase.holder = some p then none else s.timebase.holder }
      inFlight := s.inFlight.map (flightAfterEnd s p)
      channels := (teardown p (departed p left s)).channels
      reference := (teardown p (departed p left s)).reference
      latest := (teardown p (departed p left s)).latest
      monitors := (teardown p (departed p left s)).monitors
      requests := (teardown p (departed p left s)).requests
      results := (teardown p (departed p left s)).results
      events := (teardown p (departed p left s)).events } := by
  have h := teardown_eq (p := p) (departed p left s)
  generalize teardown p (departed p left s) = w at h ⊢
  generalize (allChannels.foldl (freeOwned p) (departed p left s)) = u at h
  generalize teardownMonitors p (departed p left s) = v at h
  have hreference := congrArg State.reference h
  have hlatest := congrArg State.latest h
  have hmonitors := congrArg State.monitors h
  have hrequests := congrArg State.requests h
  have hresults := congrArg State.results h
  have hevents := congrArg State.events h
  rw [hreference, hlatest, hmonitors, hrequests, hresults, hevents]
  exact h

/-- What the teardown leaves of a session (10 R177). -/
theorem sessionEnded_teardown (hs : subscribersLawful s) : sessionEnded left s (teardown p (departed p left s)) p := by
  have hnodup : ∀ ch, (look (departed p left s).channels ch).subscribers.Nodup := fun ch => (hs ch).2.1
  refine ⟨?_, referenceAfterEnd_teardown, look_teardown_latest _, look_teardown_monitors _, ?_, ?_,
    look_teardown_events_same _, fun x hx => ⟨?_, ?_, ?_⟩⟩
  · exact teardown_departed
  · rw [look_teardown_requests, if_pos rfl]
  · exact look_teardown_results_same _ (fun ch => (hs ch).2.2 p) hnodup
  · rw [look_teardown_requests, if_neg hx]
    rfl
  · rw [look_teardown_results_other _ hnodup hx, afterCancelled_departed hx]
    rfl
  · rw [look_teardown_events_other _ hnodup hx, isOpen_departed hx]
    rfl

/-- The teardown's decision is the one of R15 and R22. -/
theorem endRaisesDecision_iff (w : State) : endRaisesDecision p s w = true ↔ endIsDecision s w p := by
  simp [endRaisesDecision, endIsDecision, or_assoc]

theorem arbitrateIf_true (s : State) : arbitrateIf true s = arbitrate s := rfl

theorem arbitrateIf_false (s : State) : arbitrateIf false s = s := rfl

theorem endSession_eq : endSession p left s
    = arbitrateIf (endRaisesDecision p s (teardown p (departed p left s))) (teardown p (departed p left s)) := rfl

theorem endSession_decides (h : endIsDecision s (teardown p (departed p left s)) p) :
    endSession p left s = arbitrate (teardown p (departed p left s)) := by
  rw [endSession_eq, (endRaisesDecision_iff _).mpr h, arbitrateIf_true]

theorem endSession_settled (h : ¬endIsDecision s (teardown p (departed p left s)) p) :
    endSession p left s = teardown p (departed p left s) := by
  rw [endSession_eq, Bool.eq_false_iff.mpr fun hd => h ((endRaisesDecision_iff _).mp hd), arbitrateIf_false]

theorem endSession_state : (look (endSession p left s).sessions p).state = left := by
  simp

end Ended

/-- Settles O22: the expiry is a session end whose State becomes REVOKED. -/
theorem leaseExpiryRevokes : Obligations.LeaseExpiryRevokes := by
  intro p s l hx hzero hs
  have he : exec (.leaseExpiry p) s = .next (endSession p .revoked s) := by
    refine if_pos ?_
    simp [leaseExpiryDue, Session.lease_opened hx, hzero]
  refine ⟨_, sessionEnded_teardown hs, fun h => ?_, fun h => ?_, fun t ht => ?_⟩
  · rw [he, endSession_decides h]
  · rw [he, endSession_settled h]
  · obtain rfl : endSession p .revoked s = t := by simpa [he] using ht
    refine ⟨endSession_holdsNothing p .revoked s, ?_⟩
    rw [alert, endSession_state]

/-! ### CLOSE -/

section Close

variable {s w : State} {p : Port} {left : SessionState}

/-- The ports are no part of what a session end leaves. -/
theorem sessionEnded_ports {v : Vector LinkPort 4} (h : sessionEnded left { s with ports := v } w p) :
    sessionEnded left s { w with ports := s.ports } p := by
  obtain ⟨hframe, hrest⟩ := h
  exact ⟨congrArg (fun x : State => { x with ports := s.ports }) hframe, hrest⟩

theorem exec_closeSession {q : LinkSeq} {t : State} (h : takesNew s p 0x03 q []) (ho : isOpen s p = true)
    (ht : endSession p .closed (taken s p 0x03 q []) = { t with ports := (taken s p 0x03 q []).ports }) :
    exec (.closeSession p q []) s = .next (answered s t p 0x03 q [] (.built .ok
      [byte (look s.results p).records.length, byte (look s.events p).records.length])) :=
  sessionRequest_answered h ho rfl (by rw [closeWith, ht]; rfl)

end Close

/-- Settles O17: CLOSE is a session end whose State becomes CLOSED, between the taking of the frame and its answer. -/
theorem closeEndsSession : Obligations.CloseEndsSession := by
  intro p q s h ho hs
  obtain ⟨x, hx⟩ : ∃ x, x = taken s p 0x03 q [] := ⟨_, rfl⟩
  obtain ⟨u, hu⟩ : ∃ u, u = teardown p (departed p .closed x) := ⟨_, rfl⟩
  have hports : u.ports = x.ports := by simp [hu]
  have hended : sessionEnded .closed x u p := hu ▸ sessionEnded_teardown (by rw [hx]; exact hs)
  have hdecision : endIsDecision s { u with ports := s.ports } p ↔ endIsDecision x u p := by
    rw [hx]
    exact Iff.rfl
  refine ⟨{ u with ports := s.ports }, sessionEnded_ports (hx ▸ hended), fun hd => ?_, fun hd => ?_, fun t ht => ?_⟩
  · refine exec_closeSession h ho ?_
    rw [← hx, endSession_decides (hu ▸ hdecision.mp hd), ← hu, ← hports]
    exact arbitrate_ports { u with ports := s.ports } u.ports
  · refine exec_closeSession h ho ?_
    rw [← hx, endSession_settled (hu ▸ fun h => hd (hdecision.mpr h)), ← hu, ← hports]
  · have hsame : (endSession p .closed x).ports = x.ports := by simp
    have he := exec_closeSession (t := endSession p .closed x) h ho (by rw [← hx, ← hsame])
    obtain rfl : answered s (endSession p .closed x) p 0x03 q [] _ = t := by simpa [he] using ht
    refine ⟨endSession_holdsNothing p .closed x, ?_⟩
    show alert (endSession p .closed x) p = false
    rw [alert, endSession_state]

end Sys2Proof.Machine

/-! OPEN, the readings and the fall of a lease (10 R171 to R173, R178). -/

namespace Sys2Proof.Machine

section Opening

variable {s : State} {p : Port} {hi lo policy mark : Byte} {payload : List Byte}

theorem policyArg_eq_some {b : Byte} (h : b.toNat ≤ 1) :
    policyArg b = some (if b = 0 then .dropNewest else .overwriteOldest) := by
  rcases Nat.le_one_iff_eq_zero_or_eq_one.mp h with h | h
  · obtain rfl : b = 0 := BitVec.eq_of_toNat_eq h
    rfl
  · obtain rfl : b = 1 := BitVec.eq_of_toNat_eq h
    rfl

theorem openArgs_eq_some (h5 : 5 ≤ be16 hi lo) (h5000 : be16 hi lo ≤ 5000) (hp : policy.toNat ≤ 1) (h1 : 1 ≤ mark.toNat)
    (h32 : mark.toNat ≤ 32) :
    openArgs hi lo policy mark = some {
      leaseLength := be16 hi lo, policy := if policy = 0 then .dropNewest else .overwriteOldest, watermark := mark.toNat } := by
  unfold openArgs
  rw [within_eq_some h5 h5000, policyArg_eq_some hp, within_eq_some h1 h32]
  rfl

theorem openWith_opens {a : OpenArgs} (ho : isOpen s p = false) (ha : openArgs hi lo policy mark = some a) :
    openWith p [hi, lo, policy, mark] s
      = (opened p a s, .built .ok (half 1 ++ [resetCauseByte s.resetCause, flag (look s.sessions p).state.isRevoked]
          ++ half a.leaseLength ++ [byte p.val])) := by
  unfold openWith
  cases hx : (look s.sessions p).state with
  | opened l => exact absurd (isOpen_iff.mpr ⟨l, hx⟩) (Bool.eq_false_iff.mp ho)
  | closed | revoked => simp only [ha]

theorem isRevoked_eq (x : SessionState) : x.isRevoked = decide (x = .revoked) := by
  cases x <;> rfl

end Opening

/-- Settles O16: the session record of the arguments, and the reply of the state in which the frame is taken. -/
theorem openBeginsSession : Obligations.OpenBeginsSession := by
  refine ⟨fun _ _ => rfl, fun p q hi lo policy mark s h ho h5 h5000 hp h1 h32 => ?_⟩
  have hopens := openWith_opens (s := taken s p 0x02 q [hi, lo, policy, mark]) (p := p) ho (openArgs_eq_some h5 h5000 hp h1 h32)
  show takeRequest _ _ _ _ _ _ _ = _
  unfold takeRequest
  rw [takeFrame_fresh h, if_pos (by rfl), hopens]
  cases hcause : s.resetCause with
  | powerOn | resetPin =>
    simp [startProcessing, opened, OpenArgs.lease, isRevoked_eq, resetCauseByte, hcause, taken, carrying, setPort, setSession,
      setResults, setEvents, setRequests, setStaging, half, flag, byte]

/-! ### Readings -/

theorem monitorIdArg_eq_some {b : Byte} {m : MonitorId} (h : b.toNat = m.val) : monitorIdArg b = some m := by
  have hb : b.toNat < 8 := h ▸ m.isLt
  exact (dif_pos hb).trans (congrArg some (Fin.ext h))

theorem monitorIdArg_eq_none {b : Byte} (h : 8 ≤ b.toNat) : monitorIdArg b = none :=
  dif_neg (by omega)

/-- Settles O19: a reading's decision leaves the state as it is. -/
theorem readingsChangeNothing : Obligations.ReadingsChangeNothing := by
  refine ⟨fun p q s h => takeRequest_answered h rfl rfl, fun p q s ho => ⟨fun h => sessionRequest_answered h ho rfl rfl,
    fun h => sessionRequest_answered h ho rfl rfl⟩, fun p q b s ho => ⟨fun h ch hb => ?_, fun h hb => ?_, fun h ch hb => ?_,
    fun h hb => ?_, fun h hb => ?_, fun h hb => ?_, fun h m hb => ?_, fun h hb => ?_⟩⟩
  · exact sessionRequest_answered h ho rfl (by simp only [channelInfoWith, channelArg_eq_some hb]; rfl)
  · exact sessionRequest_refused h ho rfl (by simp only [channelInfoWith, channelArg_eq_none hb])
  · exact sessionRequest_answered h ho rfl (by simp only [peekLatestWith, channelArg_eq_some hb]; rfl)
  · exact sessionRequest_refused h ho rfl (by simp only [peekLatestWith, channelArg_eq_none hb])
  · exact sessionRequest_answered h ho rfl (if_neg (by omega))
  · exact sessionRequest_refused h ho rfl (if_pos (by omega))
  · exact sessionRequest_answered h ho rfl (by simp only [monitorReadWith, monitorIdArg_eq_some hb]; rfl)
  · exact sessionRequest_refused h ho rfl (by simp only [monitorReadWith, monitorIdArg_eq_none hb])

/-! ### The fall of a lease -/

/-- Settles O21: the fall that reaches a quarter of the lease warns, where no warning was sent. -/
theorem leaseFallAndWarning : Obligations.LeaseFallAndWarning := by
  intro p s l hx hdue
  have he : exec (.leaseFall p) s = .next (offerEvents (if l.warns then [(.leaseWarning (l.leaseRemaining - 1), p)] else [])
      (setSession p { look s.sessions p with state := .opened l.fallen } s)) := by
    show execLeaseFall p s = _
    unfold execLeaseFall
    rw [hx]
    exact if_pos hdue
  rw [he]
  refine ⟨fun hunsent hquarter => ?_, fun hquiet => ?_⟩
  · have hwarns : l.warns = true := by simp [Lease.warns, hunsent, hquarter]
    rw [if_pos hwarns, offerEvents_single, offeredEvent_of_lease (l := l.fallen) (by simp [Session.lease])]
    simp [Lease.fallen, hwarns, setSession]
  · have hwarns : l.warns = false := by
      rcases hquiet with h | h <;> simp [Lease.warns, h]
    rw [hwarns]
    simp [Lease.fallen, hwarns, setSession, offerEvents]

end Sys2Proof.Machine

/-! The replies of the readings, record by record (11.6.1, 11.6.4, 11.6.5). -/

namespace Sys2Proof.Machine

section Replies

variable {s : State} {p : Port} {l : Lease} {ch : Channel}

/-! ### STATUS -/

theorem statusPayload_opened (hx : (look s.sessions p).state = .opened l) :
    statusPayload s p
      = [1, flag (look s.sessions p).previousRevoked] ++ half l.leaseLength ++ half l.leaseRemaining ++ [flag l.warningSent]
          ++ half l.expectedRenewal.toNat ++ [policyByte l.policy, byte l.watermark]
          ++ [byte (look s.staging p).length, byte (look s.requests p).length, byte (look s.results p).records.length,
            byte (look s.events p).records.length]
          ++ half (look s.results p).overflow ++ [byte (look s.events p).lost] ++ half (look s.ports p).linkErrors := by
  unfold statusPayload
  dsimp only
  rw [Session.lease_opened hx, hx]
  rfl

theorem statusPayload_ended (hx : (look s.sessions p).lease = none) :
    statusPayload s p = [sessionStateByte (look s.sessions p).state, flag (look s.sessions p).previousRevoked]
      ++ List.replicate 16 0 ++ half (look s.ports p).linkErrors := by
  unfold statusPayload
  dsimp only
  rw [hx]

/-! ### CHANNEL_INFO and PIN_READ -/

/-- The plan-use byte: 1 exactly where a slot of the next plan, or one of the active plan that is not void, converts the channel
(02 R37, R46). -/
theorem flag_planUse : flag (planUse s ch)
    = if (∃ sl ∈ s.nextPlan, sl.channel = ch) ∨ ∃ a ∈ s.activePlan, a.void = false ∧ a.slot.channel = ch then 1 else 0 := by
  have huse : planUse s ch = true
      ↔ (∃ sl ∈ s.nextPlan, sl.channel = ch) ∨ ∃ a ∈ s.activePlan, a.void = false ∧ a.slot.channel = ch := by
    simp [planUse]
  unfold flag
  simp only [huse]

/-- The three subscriber bytes: the subscribers in list order, then zeros (02 R46). -/
theorem subscriberBytes_eq (subs : List Port) :
    [subscriberByte subs 0, subscriberByte subs 1, subscriberByte subs 2]
      = (subs.map fun x => byte x.val).take 3 ++ List.replicate (3 - subs.length) 0 := by
  match subs with
  | [] | [_] | [_, _] => rfl
  | _ :: _ :: _ :: rest => simp [subscriberByte, portByte]

theorem channelPayload_analog {o : Port} {subs : List Port} (hc : look s.channels ch = .analog o subs) :
    channelPayload s ch = [byte ch.val, 3, byte o.val, 0, 0, 0, 0, byte subs.length]
      ++ (subs.map fun x => byte x.val).take 3 ++ List.replicate (3 - subs.length) 0 ++ [flag (planUse s ch)] := by
  have hsubs := subscriberBytes_eq subs
  unfold channelPayload
  dsimp only
  rw [hc, List.append_assoc _ (List.take 3 _), ← hsubs]
  rfl

theorem pinPayload_digital {o : Port} {d : DigitalPart} {k : Fin 12} (hc : look s.channels ch = .digital o d)
    (hk : ch.val = k.val) :
    pinPayload s ch = [flag (pinLevel s k), directionByte d.direction, flag d.pullUp, flag d.outputLevel] := by
  have hlt : ch.val < 12 := hk ▸ k.isLt
  have heq : (⟨ch.val, hlt⟩ : Fin 12) = k := Fin.ext hk
  unfold pinPayload
  rw [hc]
  simp only [dif_pos hlt, heq]

/-! ### PLAN_READ -/

/-- Each flag of a slot descriptor is the one the sum gives its weight to (11.6.4). -/
theorem byte_slotFlags : ∀ monitored void late missed standing moved : Bool,
    let b := byte ((if monitored then 1 else 0) + (if void then 2 else 0) + (if late then 4 else 0) + (if missed then 8 else 0)
      + (if standing then 16 else 0) + (if moved then 32 else 0))
    b.getLsbD 0 = monitored ∧ b.getLsbD 1 = void ∧ b.getLsbD 2 = late ∧ b.getLsbD 3 = missed ∧ b.getLsbD 4 = standing
      ∧ b.getLsbD 5 = moved ∧ b.getLsbD 6 = false ∧ b.getLsbD 7 = false := by decide

/-- The slot of the next plan with the id has another phase (11.6.4). -/
def movedInNext (s : State) (a : ActiveSlot) : Bool :=
  match nextSlot s a.slot.id with
  | some n => n.phase != a.slot.phase
  | none => false

theorem movedInNext_iff {a : ActiveSlot} : movedInNext s a = true
    ↔ ∃ x, s.nextPlan.find? (fun y => y.id == a.slot.id) = some x ∧ x.phase ≠ a.slot.phase := by
  unfold movedInNext nextSlot
  cases s.nextPlan.find? _ <;> simp

/-- A slot's monitor is the lowest-numbered one that names it (11.6.4). -/
theorem monitorOf_eq_some {id : SlotId} {m : MonitorId} {r : Monitor} (hr : look s.monitors m = some r) (hid : r.slot = id)
    (hlow : ∀ n : MonitorId, ∀ k, n < m → look s.monitors n = some k → k.slot ≠ id) : monitorOf s id = some m := by
  unfold monitorOf allMonitors
  rw [← Fin.find?_eq_find?_finRange, Fin.find?_eq_some_iff]
  refine ⟨by simp [hr, hid], fun n hn => ?_⟩
  cases hk : look s.monitors n with
  | none => rfl
  | some k => simpa using hlow n k hn hk

theorem monitorOf_eq_none {id : SlotId} (h : ∀ m r, look s.monitors m = some r → r.slot ≠ id) : monitorOf s id = none := by
  refine List.find?_eq_none.mpr fun m _ => ?_
  cases hr : look s.monitors m with
  | none => simp
  | some r => simpa using h m r hr

/-! ### Codes of 11.6.5 -/

theorem byte_bits (x : Resolution) : byte x.bits = match x with | .bits8 => (8 : Byte) | .bits10 => 10 | .bits12 => 12 := by
  cases x <;> rfl

theorem progressByte_eq (x : Progress) :
    progressByte x = match x with | .idle => (0 : Byte) | .pending => 1 | .inFlight => 2 | .done => 3 := by
  cases x <;> rfl

theorem latenessByte_eq (x : Option Nat) : byte (x.getD 0) = match x with | some n => byte n | none => 0 := by
  cases x <;> rfl

theorem timingModeByte_eq (x : TimingMode) : timingModeByte x = match x with | .free => (0 : Byte) | .external => 1 := by
  cases x <;> rfl

theorem candidateByte_eq (x : Option Zone) :
    candidateByte x = match x with
      | some .below => (1 : Byte) | some .inside => 2 | some .above => 3 | some .unknown => 0 | none => 0 := by
  rcases x with _ | _ | _ | _ | _ <;> rfl

theorem holderBytes_eq (x : Option Port) :
    [flag x.isSome, portByte x] = match x with | some h => [(1 : Byte), byte h.val] | none => [0, 0] := by
  cases x <;> rfl

/-- The code of the timebase state, and Hunt Elapsed, which is 0 outside HUNTING (04 R80). -/
theorem timebasePayload_eq {code : Byte} {hunt : Nat}
    (h : (s.timebase.state = .stopped ∧ code = 0 ∧ hunt = 0) ∨ (s.timebase.state = .hunting hunt ∧ code = 1)
      ∨ (s.timebase.state = .freeRun ∧ code = 2 ∧ hunt = 0) ∨ (s.timebase.state = .locked ∧ code = 3 ∧ hunt = 0)
      ∨ (s.timebase.state = .flywheel ∧ code = 4 ∧ hunt = 0)) :
    timebasePayload s = [code] ++ half s.timebase.frameNumber.toNat ++ three s.timebase.elapsed ++ three hunt
      ++ timingBytes s.activeTiming ++ timingBytes s.nextTiming ++ [byte s.timebase.missCount]
      ++ half s.timebase.spuriousCount ++ [flag s.timebase.holder.isSome, portByte s.timebase.holder] := by
  unfold timebasePayload
  dsimp only
  rcases h with ⟨hx, rfl, rfl⟩ | ⟨hx, rfl⟩ | ⟨hx, rfl, rfl⟩ | ⟨hx, rfl, rfl⟩ | ⟨hx, rfl, rfl⟩
  all_goals
    rw [hx]
    rfl

end Replies

/-- Settles O20, reply by reply. -/
theorem readingRepliesBuilt : Obligations.ReadingRepliesBuilt := by
  refine ⟨fun _ => ⟨rfl, rfl, rfl⟩, rfl, rfl, fun s p => ⟨fun l hx => ?_, fun hx => ?_, fun hx => ?_,
    fun ch use huse => ⟨fun hc => ?_, fun o d hc => ?_, fun o n due hc => ?_, fun o subs hc => ?_, fun hc => ?_⟩,
    fun ch o d k hc hk => ?_, fun holder hholder => ⟨fun hx => ?_, fun hx => ?_, fun hx => ?_, fun hx => ?_, fun n due hx => ?_,
      fun n due hx => ?_⟩, fun code hunt hstate => ?_, fun ch v hv => ?_, fun ch hv => ?_, fun m r hr => ?_, fun m hr => ?_,
    fun start => ?_, fun a => ?_⟩⟩
  · exact congrArg (Prod.mk Status.ok) (statusPayload_opened hx)
  · rw [builtAnswer, readingPayload, statusPayload_ended (by simp [Session.lease, hx]), hx]
    rfl
  · rw [builtAnswer, readingPayload, statusPayload_ended (by simp [Session.lease, hx]), hx]
    rfl
  · rw [builtAnswer, readingPayload, channelPayload, hc, flag_planUse, ← huse]
    rfl
  · rw [builtAnswer, readingPayload, channelPayload, hc, flag_planUse, ← huse]
    obtain ⟨direction, _, _⟩ := d
    cases direction <;> rfl
  · rw [builtAnswer, readingPayload, channelPayload, hc, flag_planUse, ← huse]
    rfl
  · rw [builtAnswer, readingPayload, channelPayload_analog hc, flag_planUse, ← huse]
  · rw [builtAnswer, readingPayload, channelPayload, hc, flag_planUse, ← huse]
    rfl
  · rw [builtAnswer, readingPayload, pinPayload_digital hc hk]
    obtain ⟨direction, _, _⟩ := d
    cases direction <;> rfl
  iterate 6
    · rw [builtAnswer, readingPayload, referencePayload, hx, hholder]
      cases s.reference.holder <;> rfl
  · rw [builtAnswer, readingPayload, timebasePayload_eq hstate, timingBytes, timingBytes, timingModeByte_eq, timingModeByte_eq,
      holderBytes_eq]
    rfl
  · obtain ⟨value, resolution, reference, frame, source, session⟩ := v
    rw [latestPayload, hv]
    dsimp only
    rw [byte_bits]
    cases reference <;> cases source <;> rfl
  · rw [latestPayload, hv]
    rfl
  · rw [monitorPayload, hr]
    dsimp only
    rw [candidateByte_eq]
    cases r.zone <;> rfl
  · rw [monitorPayload, hr]
    rfl
  · rw [builtAnswer, readingPayload, planPayload]
    simp
  · have bits := byte_slotFlags (monitorOf s a.slot.id).isSome a.void a.lateness.isSome a.missed (inNext s a.slot.id)
      (movedInNext s a)
    obtain ⟨hmonitored, hvoid, hlate, hmissed, hstanding, hmoved, hsix, hseven⟩ := bits
    refine ⟨match monitorOf s a.slot.id with | some m => byte m.val | none => 0, _, ?_, fun hnone => ⟨?_, ?_⟩,
      fun m r hr hid hlow => ⟨?_, ?_⟩, hvoid, hlate, hmissed, ?_, ?_, hsix, hseven⟩
    · unfold descriptor
      rw [byte_bits, progressByte_eq, latenessByte_eq]
      rfl
    · rw [monitorOf_eq_none hnone]
    · rw [hmonitored, monitorOf_eq_none hnone]
      rfl
    · rw [monitorOf_eq_some hr hid hlow]
    · rw [hmonitored, monitorOf_eq_some hr hid hlow]
      rfl
    · rw [hstanding]
      simp [inNext]
    · rw [hmoved, movedInNext_iff]

end Sys2Proof.Machine

/-! The claim table's requests: CLAIM, RELEASE, UNSUBSCRIBE, the pin requests and the end of an analog settle (chapter 02). -/

namespace Sys2Proof.Machine

section Arguments

variable {b c m : Byte} {ch : Channel} {p : Port} {s : State}

theorem flagArg_eq_some (h : b.toNat ≤ 1) : flagArg b = some (decide (b = 1)) := by
  rcases Nat.le_one_iff_eq_zero_or_eq_one.mp h with h | h
  · obtain rfl : b = 0 := BitVec.eq_of_toNat_eq h
    rfl
  · obtain rfl : b = 1 := BitVec.eq_of_toNat_eq h
    rfl

theorem flagArg_eq_none (h : 1 < b.toNat) : flagArg b = none := by
  unfold flagArg
  rw [if_neg (by omega), if_neg (by omega)]

theorem directionArg_eq_some (h : b.toNat ≤ 1) : directionArg b = some (if b = 0 then .input else .output) := by
  rcases Nat.le_one_iff_eq_zero_or_eq_one.mp h with h | h
  · obtain rfl : b = 0 := BitVec.eq_of_toNat_eq h
    rfl
  · obtain rfl : b = 1 := BitVec.eq_of_toNat_eq h
    rfl

theorem directionArg_eq_none (h : 1 < b.toNat) : directionArg b = none := by
  rw [directionArg, flagArg_eq_none h, Option.map_none]

theorem planUse_iff : planUse s ch = true
    ↔ (∃ sl ∈ s.nextPlan, sl.channel = ch) ∨ ∃ a ∈ s.activePlan, a.void = false ∧ a.slot.channel = ch := by
  simp [planUse]

/-- A channel that a claim finds in use: not free, not the session's own, and not DIGITAL or ANALOG of the session (02 R32). -/
def inUseFor (s : State) (p : Port) (ch : Channel) : Prop :=
  look s.channels ch = .reference ∨ (∃ n due, look s.channels ch = .settling p n due)
    ∨ ∃ o, (look s.channels ch).owner = some o ∧ o ≠ p

end Arguments

/-! ### CLAIM -/

section Claim

variable {s : State} {p : Port} {c m : Byte} {ch : Channel} {q : LinkSeq}

theorem claimWith_badArgument (h : 14 ≤ c.toNat ∨ 1 < m.toNat) : claimWith p [c, m] s = refuse .badArgument s := by
  simp only [claimWith, digitalArg]
  rcases h with h | h
  · rw [channelArg_eq_none h]
  · rw [flagArg_eq_none h]
    cases channelArg c <;> rfl

theorem claimWith_analog (hc : c.toNat = ch.val) : claimWith p [c, 0] s = claimAnalog p ch s := by
  simp only [claimWith, channelArg_eq_some hc]
  rfl

theorem claimWith_digital (hc : c.toNat = ch.val) :
    claimWith p [c, 1] s = if 12 ≤ ch.val then refuse .badArgument s else claimDigital p ch s := by
  simp only [claimWith, channelArg_eq_some hc]
  rfl

theorem claimAnalog_inUse (h : inUseFor s p ch) : claimAnalog p ch s = refuse .inUse s := by
  unfold claimAnalog
  rcases h with h | ⟨n, due, h⟩ | ⟨o, ho, hne⟩
  · rw [h]
  · rw [h]
  · cases hx : look s.channels ch <;> simp_all [ChannelRec.owner]

theorem claimDigital_inUse (h : inUseFor s p ch) : claimDigital p ch s = refuse .inUse s := by
  unfold claimDigital
  rcases h with h | ⟨n, due, h⟩ | ⟨o, ho, hne⟩
  · rw [h]
  · rw [h]
  · cases hx : look s.channels ch <;> simp_all [ChannelRec.owner]

end Claim

theorem holdsAnalog_iff_analog {s : State} {p : Port} {ch : Channel} :
    holdsAnalog s p ch = true ↔ ∃ subs, look s.channels ch = .analog p subs := by
  unfold holdsAnalog
  cases look s.channels ch <;> simp

/-- Settles O23, by the state of the channel in which the frame is taken. -/
theorem claimForAnalog : Obligations.ClaimForAnalog := by
  refine ⟨⟨rfl, rfl, fun o => ⟨fun _ => rfl, fun _ _ => rfl, fun _ => rfl⟩⟩, fun _ _ _ => holdsAnalog_iff_analog,
    fun p q c m s h ho => ⟨fun hbad => sessionRequest_refused h ho rfl (claimWith_badArgument hbad), ?_⟩⟩
  rintro ch hc rfl
  have hclaim := claimWith_analog (p := p) (s := taken s p 0x10 q [c, 0]) hc
  refine ⟨fun hx hpin => sessionRequest_answered h ho rfl ?_, fun hx hinternal => sessionRequest_answered h ho rfl ?_,
    fun d hx => sessionRequest_answered h ho rfl ?_, fun subs hx => sessionRequest_answered h ho rfl ?_,
    fun hx => sessionRequest_refused h ho rfl (hclaim.trans (claimAnalog_inUse hx))⟩
  · rw [hclaim, claimAnalog, taken_channels, hx]
    exact if_pos hpin
  · rw [hclaim, claimAnalog, taken_channels, hx]
    exact if_neg (by omega)
  · rw [hclaim, claimAnalog, taken_channels, hx]
    exact if_pos rfl
  · rw [hclaim, claimAnalog, taken_channels, hx]
    exact if_pos rfl

/-! ### Withdrawals and the decision after them -/

section Withdrawn

variable {s w : State} {p : Port} {ch : Channel} {subs : List Port} {cause : LossCause} {code : Byte} {q : LinkSeq}
  {payload : List Byte} {n : Nat} {f : State → Decision} {a : Answer}

theorem arbitrateIf_ports (b : Bool) (w : State) (v : Vector LinkPort 4) :
    arbitrateIf b { w with ports := v } = { (if b = true then arbitrate w else w) with ports := v } := by
  cases b with
  | true => exact arbitrate_ports w v
  | false => rfl

/-- A request whose decision removes entries, and lets the arbiter decide where a head left its queue (01 R15). -/
theorem sessionRequest_removes (h : takesNew s p code q payload) (ho : isOpen s p = true) (hl : payload.length = n)
    (hf : f (taken s p code q payload)
      = (arbitrateIf (headLeft s.requests w.requests) { w with ports := (taken s p code q payload).ports }, a)) :
    takeRequest p q code n payload (inSession p f) s
      = .next (answered s (if headLeft s.requests w.requests = true then arbitrate w else w) p code q payload a) :=
  sessionRequest_answered h ho hl (hf.trans (by rw [arbitrateIf_ports]))

/-- The withdrawal of the users of a session's channel (02 R30). -/
theorem withdrawUsers_usersWithdrawn (hcause : withdrawnFrom cause p subs = p :: subs) (hn : subs.Nodup) (hp : p ∉ subs)
    (hr : w.requests = (withdrawUsers ch cause p subs s).requests) (hq : w.results = (withdrawUsers ch cause p subs s).results)
    (he : w.events = (withdrawUsers ch cause p subs s).events) : usersWithdrawn s w ch cause p subs := by
  intro x
  have hall : (withdrawnFrom cause p subs).Nodup := hcause ▸ List.nodup_cons.mpr ⟨hp, hn⟩
  have hmem : x ∈ withdrawnFrom cause p subs ↔ x = p ∨ x ∈ subs := by rw [hcause, List.mem_cons]
  rw [hr, hq, he, look_withdrawUsers_requests, look_withdrawUsers_results hall, look_withdrawUsers_events hn]
  simp only [hmem, and_self]

end Withdrawn

/-- Settles O24, by the state of the channel in which the frame is taken; the mode change is a withdrawal of its users. -/
theorem claimForDigital : Obligations.ClaimForDigital := by
  intro p q c s ch h ho hc
  have hclaim := claimWith_digital (p := p) (s := taken s p 0x10 q [c, 1]) hc
  refine ⟨fun hinternal => sessionRequest_refused h ho rfl (hclaim.trans (if_pos hinternal)), fun hpin => ?_⟩
  rw [if_neg (by omega)] at hclaim
  refine ⟨fun hx => sessionRequest_answered h ho rfl ?_, fun d hx => sessionRequest_answered h ho rfl ?_,
    fun hx => sessionRequest_refused h ho rfl (hclaim.trans (claimDigital_inUse hx)), fun subs hx hn hp => ⟨fun huse => ?_,
      fun huse => ⟨setChannel ch (.digital p .initial) (withdrawUsers ch .modeChange p subs s),
        withdrawUsers_usersWithdrawn rfl hn hp rfl rfl rfl, rfl, ?_⟩⟩⟩
  · rw [hclaim, claimDigital, taken_channels, hx]
    rfl
  · rw [hclaim, claimDigital, taken_channels, hx]
    exact if_pos rfl
  · refine sessionRequest_refused h ho rfl ?_
    rw [hclaim, claimDigital, taken_channels, hx]
    exact (if_pos rfl).trans (if_pos (planUse_iff.mpr huse))
  · refine sessionRequest_removes h ho rfl ?_
    rw [hclaim, claimDigital, taken_channels, hx]
    exact (if_pos rfl).trans (if_neg fun h => huse (planUse_iff.mp h))

/-! ### RELEASE -/

section Release

variable {s : State} {p : Port} {c : Byte} {ch : Channel}

theorem releaseWith_owned (hc : c.toNat = ch.val) (ho : (look s.channels ch).owner = some p) (hu : planUse s ch = false) :
    releaseWith p [c] s = releaseOwned ch s := by
  simp only [releaseWith, channelArg_eq_some hc]
  rw [if_neg (not_not.mpr ho), if_neg (by simp [hu])]

theorem withdrawnCount_eq (ps : List Port) (s : State) :
    withdrawnCount ch ps s = (ps.map fun x => ((look s.requests x).filter fun e => e.channel == ch).length).sum :=
  List.length_flatMap

end Release

/-- Settles O25, by the owner, the plan check and the state of the channel in which the frame is taken. -/
theorem releaseFreesChannel : Obligations.ReleaseFreesChannel := by
  intro p q c s h ho
  refine ⟨fun hc => sessionRequest_refused h ho rfl ?_, fun ch hc => ⟨fun hother => sessionRequest_refused h ho rfl ?_,
    fun howner huse => sessionRequest_refused h ho rfl ?_, fun huse => ?_⟩⟩
  · simp only [releaseWith, channelArg_eq_none hc]
  · simp only [releaseWith, channelArg_eq_some hc]
    exact if_pos hother
  · simp only [releaseWith, channelArg_eq_some hc]
    exact (if_neg (not_not.mpr howner)).trans (if_pos (planUse_iff.mpr huse))
  · have hu : planUse (taken s p 0x11 q [c]) ch = false := Bool.eq_false_iff.mpr fun h => huse (planUse_iff.mp h)
    have hreleases : ∀ x, look s.channels ch = x → x.owner = some p →
        releaseWith p [c] (taken s p 0x11 q [c]) = releaseOwned ch (taken s p 0x11 q [c]) :=
      fun x hx howner => releaseWith_owned hc (hx ▸ howner) hu
    refine ⟨fun n due hx => sessionRequest_answered h ho rfl ?_, fun d hx => sessionRequest_answered h ho rfl ?_,
      fun subs hx hn hp => ⟨setLatest ch none (setChannel ch .free (withdrawUsers ch .released p subs s)),
        withdrawUsers_usersWithdrawn rfl hn hp rfl rfl rfl, rfl, sessionRequest_removes h ho rfl ?_⟩⟩
    all_goals rw [hreleases _ hx rfl, releaseOwned, taken_channels, hx]
    · rfl
    · rfl
    · rw [← withdrawnCount_eq]
      rfl

/-! ### UNSUBSCRIBE -/

theorem unsubscribeWith_listed {s : State} {p : Port} {c : Byte} {ch : Channel} (hc : c.toNat = ch.val)
    (hp : p ∈ (look s.channels ch).subscribers) :
    unsubscribeWith p [c] s = (unsubscribed p ch s, .built .ok [byte (withdrawnCount ch [p] s)]) := by
  simp only [unsubscribeWith, channelArg_eq_some hc]
  exact if_pos (List.contains_iff_mem.mpr hp)

/-- The state after an UNSUBSCRIBE, before the decision (02 R41). -/
theorem unsubscribed_eq {s : State} {p o : Port} {ch : Channel} {subs : List Port} (hx : look s.channels ch = .analog o subs) :
    unsubscribed p ch s = arbitrateIf
      (headLeft s.requests (put s.requests p ((look s.requests p).filter fun e => e.channel != ch))) { s with
        channels := put s.channels ch (.analog o (subs.filter fun x => x != p))
        requests := put s.requests p ((look s.requests p).filter fun e => e.channel != ch)
        results := put s.results p (afterCancelled s p ((look s.requests p).filter fun e => e.channel == ch)) } := by
  unfold unsubscribed
  simp only [removeEntries_cancelled_single, hx]
  rfl

/-- Settles O27: the session's entries go with CANCELLED records, and one decision follows. -/
theorem unsubscribeLeavesList : Obligations.UnsubscribeLeavesList := by
  refine ⟨⟨fun _ _ => rfl, fun c hc => ?_⟩, fun p q c s h ho => ⟨fun hc => sessionRequest_refused h ho rfl ?_,
    fun ch hc => ⟨fun hnot => sessionRequest_refused h ho rfl ?_,
      fun o subs hx hp => ⟨_, rfl, sessionRequest_removes h ho rfl ?_⟩⟩⟩⟩
  · cases c with
    | analog o subs => exact absurd rfl (hc o subs)
    | free | digital | settling | reference => rfl
  · simp only [unsubscribeWith, channelArg_eq_none hc]
  · simp only [unsubscribeWith, channelArg_eq_some hc]
    exact if_neg fun h => hnot (List.contains_iff_mem.mp h)
  · have hlisted : p ∈ (look (taken s p 0x13 q [c]).channels ch).subscribers := by
      rw [taken_channels, hx]
      exact hp
    rw [unsubscribeWith_listed hc hlisted, unsubscribed_eq (s := taken s p 0x13 q [c]) hx]
    simp [withdrawnCount]
    rfl

/-! ### Pins -/

section Pins

variable {s : State} {p o : Port} {c x y : Byte} {ch : Channel} {d : DigitalPart}

theorem pinSetupWith_badArgument (h : 14 ≤ c.toNat ∨ 1 < x.toNat ∨ 1 < y.toNat) :
    pinSetupWith p [c, x, y] s = refuse .badArgument s := by
  simp only [pinSetupWith]
  rcases h with h | h | h
  · rw [channelArg_eq_none h]
  · rw [directionArg_eq_none h]
    cases channelArg c <;> rfl
  · rw [flagArg_eq_none h]
    cases channelArg c <;> cases directionArg x <;> rfl

theorem pinDriveWith_badArgument (h : 14 ≤ c.toNat ∨ 1 < x.toNat) : pinDriveWith p [c, x] s = refuse .badArgument s := by
  simp only [pinDriveWith]
  rcases h with h | h
  · rw [channelArg_eq_none h]
  · rw [flagArg_eq_none h]
    cases channelArg c <;> rfl

theorem pinSetupWith_digital (hc : c.toNat = ch.val) (hx : x.toNat ≤ 1) (hy : y.toNat ≤ 1)
    (hd : look s.channels ch = .digital o d) :
    pinSetupWith p [c, x, y] s = if o = p then
        (setChannel ch (.digital o { d with direction := if x = 0 then .input else .output, pullUp := decide (y = 1) }) s,
          .built .ok [])
      else refuse .notOwner s := by
  simp only [pinSetupWith, channelArg_eq_some hc, directionArg_eq_some hx, flagArg_eq_some hy, hd]

theorem pinDriveWith_notOwner (hc : c.toNat = ch.val) (hx : x.toNat ≤ 1) (hd : look s.channels ch = .digital o d)
    (ho : o ≠ p) : pinDriveWith p [c, x] s = refuse .notOwner s := by
  simp only [pinDriveWith, channelArg_eq_some hc, flagArg_eq_some hx, hd, if_neg ho]

theorem pinDriveWith_output (hc : c.toNat = ch.val) (hx : x.toNat ≤ 1) (hd : look s.channels ch = .digital p d)
    (hout : d.direction = .output) :
    pinDriveWith p [c, x] s
      = (setChannel ch (.digital p { d with outputLevel := decide (x = 1) }) s, .built .ok []) := by
  simp only [pinDriveWith, channelArg_eq_some hc, flagArg_eq_some hx, hd, if_true, hout]

theorem pinDriveWith_input (hc : c.toNat = ch.val) (hx : x.toNat ≤ 1) (hd : look s.channels ch = .digital p d)
    (hin : d.direction = .input) : pinDriveWith p [c, x] s = refuse .wrongMode s := by
  simp only [pinDriveWith, channelArg_eq_some hc, flagArg_eq_some hx, hd, if_true, hin]

theorem pinReadWith_digital (hc : c.toNat = ch.val) (hd : look s.channels ch = .digital o d) :
    pinReadWith p [c] s = if o = p then (s, .reading (.pin ch)) else refuse .notOwner s := by
  simp only [pinReadWith, channelArg_eq_some hc, hd]

theorem pinSetupWith_wrongMode (hc : c.toNat = ch.val) (hx : x.toNat ≤ 1) (hy : y.toNat ≤ 1)
    (hn : ∀ o d, look s.channels ch ≠ .digital o d) : pinSetupWith p [c, x, y] s = refuse .wrongMode s := by
  simp only [pinSetupWith, channelArg_eq_some hc, directionArg_eq_some hx, flagArg_eq_some hy]
  cases hd : look s.channels ch with
  | digital o d => exact absurd hd (hn o d)
  | free | settling | analog | reference => rfl

theorem pinDriveWith_wrongMode (hc : c.toNat = ch.val) (hx : x.toNat ≤ 1) (hn : ∀ o d, look s.channels ch ≠ .digital o d) :
    pinDriveWith p [c, x] s = refuse .wrongMode s := by
  simp only [pinDriveWith, channelArg_eq_some hc, flagArg_eq_some hx]
  cases hd : look s.channels ch with
  | digital o d => exact absurd hd (hn o d)
  | free | settling | analog | reference => rfl

theorem pinReadWith_wrongMode (hc : c.toNat = ch.val) (hn : ∀ o d, look s.channels ch ≠ .digital o d) :
    pinReadWith p [c] s = refuse .wrongMode s := by
  simp only [pinReadWith, channelArg_eq_some hc]
  cases hd : look s.channels ch with
  | digital o d => exact absurd hd (hn o d)
  | free | settling | analog | reference => rfl

end Pins

/-- Settles O28, by the state of the channel in which the frame is taken and its owner. -/
theorem pinRequests : Obligations.PinRequests := by
  intro p q c x y s ho
  refine ⟨fun h hbad => sessionRequest_refused h ho rfl (pinSetupWith_badArgument hbad),
    fun h hbad => sessionRequest_refused h ho rfl (pinDriveWith_badArgument hbad),
    fun h hbad => sessionRequest_refused h ho rfl (by simp only [pinReadWith, channelArg_eq_none hbad]), fun ch hc hx hy =>
      ⟨fun hn => ⟨fun h => ?_, fun h => ?_, fun h => ?_⟩, fun o d hd hne => ⟨fun h => ?_, fun h => ?_, fun h => ?_⟩,
        fun d hd => ⟨fun h => ?_, fun h hout => ?_, fun h hin => ?_, fun h => ?_⟩⟩⟩
  · exact sessionRequest_refused h ho rfl (pinSetupWith_wrongMode hc hx hy (by exact hn))
  · exact sessionRequest_refused h ho rfl (pinDriveWith_wrongMode hc hx (by exact hn))
  · exact sessionRequest_refused h ho rfl (pinReadWith_wrongMode hc (by exact hn))
  · exact sessionRequest_refused h ho rfl ((pinSetupWith_digital hc hx hy (by exact hd)).trans (if_neg hne))
  · exact sessionRequest_refused h ho rfl (pinDriveWith_notOwner hc hx (by exact hd) hne)
  · exact sessionRequest_refused h ho rfl ((pinReadWith_digital hc (by exact hd)).trans (if_neg hne))
  · exact sessionRequest_answered h ho rfl ((pinSetupWith_digital hc hx hy (by exact hd)).trans (if_pos rfl))
  · exact sessionRequest_answered h ho rfl (pinDriveWith_output hc hx (by exact hd) hout)
  · exact sessionRequest_refused h ho rfl (pinDriveWith_input hc hx (by exact hd) hin)
  · exact sessionRequest_answered h ho rfl ((pinReadWith_digital hc (by exact hd)).trans (if_pos rfl))

/-! ### The end of an analog settle -/

/-- Settles O29: the settle of a channel ends by one event to its owner. -/
theorem analogSettleEnds : Obligations.AnalogSettleEnds := by
  intro ch o n s hx
  have he : exec (.analogSettleEnd ch) s = .next (offerEvents [(.claimDone ch, o)] (setChannel ch (.analog o []) s)) := by
    show execAnalogSettleEnd ch s = _
    unfold execAnalogSettleEnd
    rw [hx]
  rw [he, offerEvents_single]
  rfl

end Sys2Proof.Machine

/-! The end of a reference settle, phase arrivals, the start of frame 0 and the frame boundary (03 R57; 04 R65 to R77; 05 R102 to
R108). -/

namespace Sys2Proof.Machine

/-- Settles O32: the settle ends by one broadcast, and the arbiter decides. -/
theorem referenceSettleEnds : Obligations.ReferenceSettleEnds := by
  intro r n s hx
  have he : exec .referenceSettleEnd s = .next (arbitrate (settleEnded r s)) := by
    show execReferenceSettleEnd s = _
    unfold execReferenceSettleEnd
    rw [hx]
  refine ⟨settleEnded r s, fun x => ?_, ?_, he⟩ <;> cases r
  · exact look_broadcast _ _ x
  · exact look_broadcast _ _ x
  · rfl
  · rfl

/-! ### Phase arrivals -/

section Arrivals

variable {s : State} {before after : List ActiveSlot} {a : ActiveSlot}

theorem arrivingSlot_at (hplan : s.activePlan = before ++ a :: after) (hbefore : ∀ x ∈ before, x.slot.phase ≠ a.slot.phase)
    (hphase : a.slot.phase = s.timebase.elapsed) (harrived : a.arrived = false) : arrivingSlot s = some a := by
  unfold arrivingSlot
  rw [hplan, List.find?_append, List.find?_eq_none.mpr, List.find?_cons_of_pos]
  · rfl
  · simp [hphase, harrived]
  · intro x hx
    simp [← hphase, hbefore x hx]

theorem missedOffers_folded (s : State) (frame : Half) (sl : Slot) (rs : Vector ResultQueue 4) :
    (missedOffers s frame sl).foldl (offeredResult s.sessions) rs = afterMissed s frame sl rs := by
  unfold missedOffers afterMissed slotRecipients
  rw [List.foldl_map]
  rfl

/-- The arrival of a slot writes its record, and offers its miss while the reference is not steady (05 R105, R108). -/
theorem phaseArrival_eq (harriving : arrivingSlot s = some a) (hplan : s.activePlan = before ++ a :: after)
    (hids : (s.activePlan.map fun x => x.slot.id).Nodup) :
    phaseArrival s = { s with
      activePlan := before
        ++ arrivedRecord (a.slot.due s.timebase.frameNumber) s.reference.state.isSteady a :: after
      results := if (!a.void && a.slot.due s.timebase.frameNumber && !s.reference.state.isSteady) = true then
          afterMissed s s.timebase.frameNumber a.slot s.results else s.results } := by
  have hupdate : ∀ f, updateSlot a.slot.id f s.activePlan = before ++ f a :: after := by
    intro f
    rw [hplan] at hids ⊢
    exact updateSlot_at f before after a hids
  unfold phaseArrival
  rw [harriving]
  dsimp only
  rw [hupdate, ← missedOffers_folded]
  split <;> rfl

theorem isSteady_iff {x : RefState} : x.isSteady = true ↔ ∃ r, x = .steady r false := by
  rcases x with ⟨r, _ | _⟩ | _ <;> simp [RefState.isSteady]

theorem due_iff {x : Slot} {frame : Half} : x.due frame = true ↔ frame.toNat % x.decimation = x.frameOffset := by
  simp [Slot.due]

end Arrivals

/-- Settles O37: the arriving slot's record by whether it is void and due, and by the reference. -/
theorem phaseArrivalTable : Obligations.PhaseArrivalTable := by
  refine ⟨fun r => ⟨rfl, rfl, rfl, fun _ _ => rfl⟩,
    fun s before after a hrun hplan hids hbefore hphase harrived => ?_⟩
  have harriving := arrivingSlot_at hplan hbefore hphase harrived
  have harrival := phaseArrival_eq harriving hplan hids
  have he : exec .phaseArrival s = .next (arbitrateIf (!a.void) (phaseArrival s)) := by
    show execPhaseArrival s = _
    unfold execPhaseArrival
    rw [if_pos (by simp [phaseArrivalDue, hrun, harriving]), arrivalRaisesDecision, harriving]
  rw [he, harrival]
  refine ⟨fun hv => ?_, fun hv hd => ?_, fun hv hd => ⟨fun hr => ?_, fun hr => ?_⟩⟩ <;> rw [hv]
  · simp [arrivedRecord, hv, arbitrateIf_false]
  · have hnot : a.slot.due s.timebase.frameNumber = false := Bool.eq_false_iff.mpr fun h => hd (due_iff.mp h)
    simp [arrivedRecord, hv, hnot, arbitrateIf_true]
  · simp [arrivedRecord, hv, due_iff.mpr hd, isSteady_iff.mpr hr, arbitrateIf_true]
  · have hnot : s.reference.state.isSteady = false := Bool.eq_false_iff.mpr fun h => by
      obtain ⟨r, hsteady⟩ := isSteady_iff.mp h
      exact hr r hsteady
    simp only [arrivedRecord, hv, due_iff.mpr hd, hnot, arbitrateIf_true, Bool.not_false, Bool.not_true, Bool.and_true,
      Bool.or_false, Bool.false_eq_true, if_false, if_true]
    rfl

/-! ### Frame 0 -/

section FrameZero

variable {s : State}

theorem broadcasts_eq (ks : List EventKind) (s : State) :
    ks.foldl (fun x k => broadcast k x) s = { s with
      events := (ks.flatMap fun k => allPorts.map fun x => (k, x)).foldl
        (offeredEvent s.sessions s.timebase.frameNumber) s.events } := by
  induction ks generalizing s with
  | nil => rfl
  | cons k ks ih =>
    rw [List.foldl_cons, ih, List.flatMap_cons, List.foldl_append]
    rfl

/-- Frame 0 starts, and then the phase-0 arrival (04 R77; 05 R105). -/
theorem startFrame0_begins (st : TimebaseState) (also : List EventKind)
    (hids : (s.activePlan.map fun a => a.slot.id).Nodup) :
    ∃ v, frameZero st (.timebaseStarted :: also) s v ∧ zeroArrival v (startFrame0 st also s) := by
  refine ⟨_, broadcasts_eq (.timebaseStarted :: also) { s with
    timebase := { s.timebase with
      state := st, frameNumber := 0, elapsed := 0, boundaryDue := false, missCount := 0, spuriousCount := 0 }
    activePlan := s.activePlan.map ActiveSlot.atFrameStart }, ?_⟩
  refine phaseArrival_zeroArrival _ ?_ ?_ fun a ha => ?_
  · rw [broadcasts_eq]
    simpa [List.map_map, Function.comp_def, ActiveSlot.atFrameStart] using hids
  · rw [broadcasts_eq]
  · rw [broadcasts_eq] at ha
    obtain ⟨x, -, rfl⟩ := List.mem_map.mp ha
    rfl

end FrameZero

/-- Settles O34: both starts of frame 0, from HUNTING. -/
theorem frameZeroStarts : Obligations.FrameZeroStarts := by
  refine ⟨fun s => ?_, fun n s hx hids => ⟨fun hreset => ?_, fun hlimit => ?_⟩⟩
  · unfold running
    cases s.timebase.state <;> simp [TimebaseState.running]
  · obtain ⟨v, hv, hu⟩ := startFrame0_begins .locked [] (s := { s with syncEdgeSampled := false }) hids
    refine ⟨v, _, hv, hu, ?_⟩
    show execSyncEdge s = _
    unfold execSyncEdge
    rw [if_neg (by simp [hreset])]
    dsimp only
    rw [hx]
  · obtain ⟨v, hv, hu⟩ := startFrame0_begins .flywheel [.syncLost 0] hids
    refine ⟨v, _, hv, hu, ?_⟩
    show execHuntingLimit s = _
    unfold execHuntingLimit huntingLimitDue
    rw [hx]
    exact if_pos (decide_eq_true hlimit)

end Sys2Proof.Machine

/-! The frame boundary, taken by a SYNC edge or by the frame's own count (04 R67 to R72; 05 R102 to R104). -/

namespace Sys2Proof.Machine

section Boundary

variable {s : State} {o : SyncOutcome}

/-! ### The stages -/

/-- Stage 1 and the misses of the ended frame (04 R67; 05 R102). -/
theorem missPending_eq (o : SyncOutcome) (s : State) :
    missPending s.timebase.frameNumber (boundaryStage1 o s) = frameEnded (missAfter o s.timebase.missCount) s := by
  unfold missPending frameEnded offerResults
  rw [List.foldl_flatMap]
  simp only [← missedOffers_folded]
  rfl

/-- The notes are answered after the plan has been replaced, and touch neither the re-check nor the activation count. -/
theorem planChanged_answerNotes (b : Bool) (s : State) :
    planChanged b (answerNotes s) = { planChanged b s with
      noted := Vector.replicate 4 false, events := afterCommitApplied (planChanged b s) } := by
  cases b <;> rfl

/-- Ending a frame writes the progress of slots, and no slot. -/
theorem frameEnded_slots (n : Nat) (s : State) : (frameEnded n s).activePlan.map (·.slot) = s.activePlan.map (·.slot) := by
  unfold frameEnded
  rw [List.map_map]
  refine List.map_congr_left fun a _ => ?_
  simp only [Function.comp_apply]
  split <;> rfl

theorem changesPlan_frameEnded (n : Nat) (s : State) : changesPlan (frameEnded n s) = changesPlan s := by
  unfold changesPlan
  rw [frameEnded_slots]
  rfl

/-- Stage 2: the frame has ended, the next plan has replaced the active one, and the notes are answered (05 R102). -/
theorem boundaryStage2_eq (o : SyncOutcome) (s : State) :
    ∃ w, w = planChanged (changesPlan (frameEnded (missAfter o s.timebase.missCount) s))
        (replacePlan (frameEnded (missAfter o s.timebase.missCount) s))
      ∧ boundaryStage2 s.timebase.frameNumber (boundaryStage1 o s)
        = { w with noted := Vector.replicate 4 false, events := afterCommitApplied w } := by
  refine ⟨_, rfl, ?_⟩
  unfold boundaryStage2
  rw [missPending_eq, planChanged_answerNotes, changesPlan_frameEnded]
  rfl

theorem planReplaced_plan {w : State} (h : planReplaced s w) :
    w.activePlan = s.nextPlan.map ActiveSlot.fresh ∧ w.timebase = s.timebase ∧ w.activeTiming = s.nextTiming := by
  obtain ⟨d, ⟨hd, -⟩, hw, -⟩ := h
  rw [hw, hd]
  exact ⟨rfl, rfl, rfl⟩

/-- The state, Miss Count and broadcasts of the new frame, by the table (04 R70, R71). -/
theorem newFrameState_opens (ended : TimebaseState) (mode : TimingMode) (o : SyncOutcome) (misses : Nat) :
    frameOpens ended (o == .accepted) misses mode (newFrameState ended mode o misses).1
      (newFrameState ended mode o misses).2.1 (newFrameState ended mode o misses).2.2 := by
  refine ⟨?_, ?_⟩
  · rintro rfl
    exact ⟨rfl, rfl, rfl⟩
  · rintro rfl
    refine ⟨?_, ?_, ?_, ?_, ?_, ?_⟩ <;> rintro rfl
    · exact ⟨rfl, rfl, rfl⟩
    all_goals cases o with
    | accepted => simp [newFrameState]
    | miss | plain => simp +contextual [newFrameState, Nat.not_le_of_lt]

/-- A boundary that an accepted edge or the frame's own count takes (04 R67 to R72). -/
theorem takeBoundary_taken (o : SyncOutcome) (hids : idPoolLawful s) :
    boundaryTaken (o == .accepted) (missAfter o s.timebase.missCount) s (takeBoundary o s) := by
  obtain ⟨w, hw, hstage⟩ := boundaryStage2_eq o s
  have hframeIds : ((frameEnded (missAfter o s.timebase.missCount) s).activePlan.map fun a => a.slot.id).Nodup := by
    have hslots := congrArg (List.map Slot.id) (frameEnded_slots (missAfter o s.timebase.missCount) s)
    rw [List.map_map, List.map_map] at hslots
    exact hslots ▸ hids.2.1
  have hreplaced : planReplaced (frameEnded (missAfter o s.timebase.missCount) s) w :=
    hw ▸ replacePlan_planReplaced _ hframeIds
  obtain ⟨hplan, htimebase, htiming⟩ := planReplaced_plan hreplaced
  refine ⟨w, hreplaced, fun hempty => ?_, fun hnext => ?_⟩
  · have hstops : w.activePlan.isEmpty = true := by rw [hplan, show (frameEnded _ s).nextPlan = s.nextPlan from rfl, hempty]; rfl
    unfold takeBoundary
    rw [hstage]
    refine (if_pos hstops).trans ?_
    have hdue : w.timebase.boundaryDue = false := by rw [htimebase]; rfl
    refine congrArg (broadcast .timebaseStopped) (?_ : enterStopped _ = { w with
      noted := Vector.replicate 4 false
      timebase := { w.timebase with state := .stopped, frameNumber := 0, elapsed := 0 }
      events := afterCommitApplied w })
    unfold enterStopped
    rw [← hdue]
  · have hgoes : w.activePlan.isEmpty ≠ true := by
      rw [hplan, show (frameEnded _ s).nextPlan = s.nextPlan from rfl]
      simpa using hnext
    have hfresh : ∀ a ∈ w.activePlan, a.arrived = false := by
      intro a ha
      rw [hplan] at ha
      obtain ⟨x, -, rfl⟩ := List.mem_map.mp ha
      rfl
    have hcopies : (w.activePlan.map fun a => a.slot.id).Nodup := by
      rw [hplan, List.map_map]
      exact hids.1
    have helapsed : w.timebase.elapsed = 0 := by rw [htimebase]; rfl
    have hmisses : w.timebase.missCount = missAfter o s.timebase.missCount := by rw [htimebase]; rfl
    have hopens := newFrameState_opens s.timebase.state s.nextTiming.mode o (missAfter o s.timebase.missCount)
    refine ⟨_, _, _, boundaryStages45 s.timebase.state o { w with
      noted := Vector.replicate 4 false, events := afterCommitApplied w }, hopens, ?_, ?_⟩
    · unfold boundaryStages45
      dsimp only
      rw [htiming, hmisses, broadcasts_eq]
      exact phaseArrival_zeroArrival _ hcopies helapsed hfresh
    · unfold takeBoundary
      rw [hstage]
      exact if_neg hgoes

end Boundary

/-! ### Edges and counted boundaries -/

section Taken

variable {s : State}

theorem exec_syncEdge_inFrame (hreset : s.inReset = false) (hx : s.timebase.state = .locked ∨ s.timebase.state = .flywheel) :
    exec .syncEdge s = .next (edgeInFrame { s with syncEdgeSampled := false }) := by
  show execSyncEdge s = _
  unfold execSyncEdge
  rw [if_neg (by simp [hreset])]
  dsimp only
  rcases hx with hx | hx <;> rw [hx]

theorem exec_syncEdge_ignored (hreset : s.inReset = false) (hx : s.timebase.state = .stopped ∨ s.timebase.state = .freeRun) :
    exec .syncEdge s = .next { s with syncEdgeSampled := false } := by
  show execSyncEdge s = _
  unfold execSyncEdge
  rw [if_neg (by simp [hreset])]
  dsimp only
  rcases hx with hx | hx <;> rw [hx]

theorem exec_frameBoundary {o : SyncOutcome} (h : countedBoundary s = some o) :
    exec .frameBoundary s = .next (takeBoundary o s) := by
  show execFrameBoundary s = _
  unfold execFrameBoundary
  rw [h]

end Taken

/-- Settles O35: an edge is ignored, counted spurious, or takes the boundary. -/
theorem syncEdgeInFrame : Obligations.SyncEdgeInFrame := by
  intro s hreset
  refine ⟨exec_syncEdge_ignored hreset, ?_⟩
  rintro ticks hx rfl
  have he := exec_syncEdge_inFrame hreset hx
  refine ⟨fun hearly => ?_, fun hlate hids => ⟨_, he, ?_⟩⟩
  · rw [he]
    exact congrArg _ (if_neg (Nat.not_le.mpr hearly))
  · have hedge : edgeInFrame { s with syncEdgeSampled := false } = takeBoundary .accepted { s with syncEdgeSampled := false } :=
      if_pos hlate
    rw [hedge]
    exact takeBoundary_taken .accepted hids

/-- Settles O36: the frame's own count takes a plain boundary in FREE_RUN and FLYWHEEL, and a miss in LOCKED. -/
theorem frameBoundaryCounted : Obligations.FrameBoundaryCounted := by
  refine ⟨fun t => ⟨rfl, rfl, rfl⟩, fun s hids hdue => ⟨fun hx => ?_, fun hx => ?_⟩⟩
  · have hcount : countedBoundary s = some .plain := by
      unfold countedBoundary
      rcases hx with hx | hx <;> rw [hx] <;> exact if_pos hdue
    exact ⟨_, exec_frameBoundary hcount, takeBoundary_taken .plain hids⟩
  · have hcount : countedBoundary s = some .miss := by
      unfold countedBoundary
      rw [hx]
      exact if_pos hdue
    exact ⟨_, exec_frameBoundary hcount, takeBoundary_taken .miss hids⟩

end Sys2Proof.Machine

/-! The edits that a session stages: STAGE_ADD with the id it reserves, STAGE_MOVE and STAGE_DROP (05 R89 to R92). -/

namespace Sys2Proof.Machine

section AddArguments

variable {p : Port} {id : SlotId} {c hi lo st res d o : Byte} {ch : Channel} {r : Resolution} {s : State}

theorem resolutionArg_eq_some (h : res.toNat = r.bits) : resolutionArg res = some r := by
  unfold resolutionArg
  rw [h]
  cases r <;> rfl

theorem resolutionArg_eq_none (h : res.toNat ≠ 8 ∧ res.toNat ≠ 10 ∧ res.toNat ≠ 12) : resolutionArg res = none := by
  obtain ⟨h8, h10, h12⟩ := h
  unfold resolutionArg
  rw [if_neg h8, if_neg h10, if_neg h12]

theorem stageAddArgs_eq_some (hc : c.toNat = ch.val) (hr : res.toNat = r.bits) (hp : be16 hi lo ≤ 65534)
    (h2 : 2 ≤ st.toNat) (h32 : st.toNat ≤ 32) (h1 : 1 ≤ d.toNat) (h16 : d.toNat ≤ 16) (ho : o.toNat < d.toNat) :
    stageAddArgs p id c hi lo st res d o = some {
      id, owner := p, channel := ch, phase := be16 hi lo, sampleTicks := st.toNat, resolution := r, decimation := d.toNat,
      frameOffset := o.toNat } := by
  unfold stageAddArgs
  rw [channelArg_eq_some hc, within_eq_some (Nat.zero_le _) hp, within_eq_some h2 h32, resolutionArg_eq_some hr,
    within_eq_some h1 h16]
  simp only [Option.bind_eq_bind, Option.bind_some]
  rw [within_eq_some (Nat.zero_le _) (by omega)]
  rfl

/-- One argument of STAGE_ADD out of its range leaves no arguments (05 R91). -/
theorem stageAddArgs_eq_none (h : 14 ≤ c.toNat ∨ 65534 < be16 hi lo ∨ st.toNat < 2 ∨ 32 < st.toNat
      ∨ (res.toNat ≠ 8 ∧ res.toNat ≠ 10 ∧ res.toNat ≠ 12) ∨ d.toNat < 1 ∨ 16 < d.toNat ∨ d.toNat ≤ o.toNat) :
    stageAddArgs p id c hi lo st res d o = none := by
  refine Option.eq_none_iff_forall_not_mem.mpr fun sl hsl => ?_
  simp only [stageAddArgs, Option.bind_eq_bind, Option.mem_def, Option.bind_eq_some_iff, within_eq_some_iff] at hsl
  obtain ⟨x, hx, phase, ⟨-, -, hphase⟩, ticks, ⟨rfl, h2, h32⟩, r, hr, n, ⟨rfl, h1, h16⟩, m, ⟨rfl, -, hm⟩, -⟩ := hsl
  rcases h with h | h | h | h | h | h | h | h
  · rw [channelArg_eq_none h] at hx
    cases hx
  · omega
  · omega
  · omega
  · rw [resolutionArg_eq_none h] at hr
    cases hr
  · omega
  · omega
  · omega

/-- The lowest-numbered free id is the free one below which none is free (05 R89). -/
theorem lowestFreeId_eq_some (hfree : isFreeId s id = true) (hlow : ∀ lower : SlotId, lower < id → isFreeId s lower = false) :
    lowestFreeId s = some id := by
  unfold lowestFreeId allSlotIds
  rw [← Fin.find?_eq_find?_finRange, Fin.find?_eq_some_iff]
  exact ⟨hfree, hlow⟩

theorem lowestFreeId_eq_none (h : ∀ id : SlotId, isFreeId s id = false) : lowestFreeId s = none :=
  List.find?_eq_none.mpr fun id _ => by simp [h id]

end AddArguments

section AddDecision

variable {p : Port} {id : SlotId} {s : State} {sl : Slot} {subs : List Port}

theorem stageSlot_notOwner (h : (look s.channels sl.channel).owner ≠ some p) : stageSlot p sl s = refuse .notOwner s := by
  unfold stageSlot
  cases hx : look s.channels sl.channel with
  | free | reference => rfl
  | digital o d | settling o n due =>
    rw [hx] at h
    exact if_neg fun e => h (congrArg some e)
  | analog o subs =>
    rw [hx] at h
    exact if_pos fun e => h (congrArg some e)

theorem stageSlot_wrongMode (h : (look s.channels sl.channel).owner = some p)
    (hn : ∀ subs, look s.channels sl.channel ≠ .analog p subs) : stageSlot p sl s = refuse .wrongMode s := by
  unfold stageSlot
  cases hx : look s.channels sl.channel with
  | free | reference =>
    rw [hx] at h
    cases h
  | digital o d | settling o n due =>
    rw [hx] at h
    exact if_pos (Option.some.inj h)
  | analog o subs =>
    rw [hx] at h
    exact absurd (Option.some.inj h ▸ hx) (hn subs)

theorem stageSlot_full (hx : look s.channels sl.channel = .analog p subs)
    (h : 8 ≤ (look s.staging p).length ∨ ∀ id : SlotId, isFreeId s id = false) : stageSlot p sl s = refuse .full s := by
  unfold stageSlot stagingFull
  simp only [hx, ne_eq, not_true_eq_false, if_false, decide_eq_true_eq]
  rcases h with h | h
  · exact if_pos h
  · rw [lowestFreeId_eq_none h]
    exact ite_self _

theorem stageSlot_adds (hx : look s.channels sl.channel = .analog p subs) (hroom : (look s.staging p).length < 8)
    (hid : lowestFreeId s = some id) : stageSlot p sl s = appendEdit p (.add { sl with id }) [byte id.val] s := by
  unfold stageSlot stagingFull
  simp only [hx, ne_eq, not_true_eq_false, if_false, decide_eq_true_eq]
  rw [if_neg (Nat.not_le.mpr hroom), hid]

theorem stageAddWith_slot {c hi lo st res d o : Byte} (h : stageAddArgs p 0 c hi lo st res d o = some sl) :
    stageAddWith p [c, hi, lo, st, res, d, o] s = stageSlot p sl s := by
  simp only [stageAddWith, h]

end AddDecision

/-- Settles O39, by the arguments, the channel, the staging area and the free ids. -/
theorem stageAddReservesId : Obligations.StageAddReservesId := by
  refine ⟨fun s id => ⟨isReserved_iff, ?_⟩, fun p q c hi lo st res d o s h ho => ⟨fun hout => ?_,
    fun ch r hc hr hp h2 h32 h1 h16 hoff => ?_⟩⟩
  · simp [isFreeId, inNext, inActive, and_assoc]
  · exact sessionRequest_refused h ho rfl (by simp only [stageAddWith, stageAddArgs_eq_none hout])
  · have hdecision := stageAddWith_slot (s := taken s p 0x30 q [c, hi, lo, st, res, d, o])
      (stageAddArgs_eq_some (p := p) (id := 0) hc hr hp h2 h32 h1 h16 hoff)
    exact ⟨fun hother => sessionRequest_refused h ho rfl (hdecision.trans (stageSlot_notOwner hother)),
      fun howner hn => sessionRequest_refused h ho rfl (hdecision.trans (stageSlot_wrongMode howner hn)),
      fun subs hx => ⟨fun hfull => sessionRequest_refused h ho rfl (hdecision.trans (stageSlot_full hx hfull)),
        fun id hroom hfree hlow => sessionRequest_answered h ho rfl
          (hdecision.trans (stageSlot_adds hx hroom (lowestFreeId_eq_some hfree hlow)))⟩⟩

/-! ### STAGE_MOVE and STAGE_DROP -/

section Targets

variable {p : Port} {id : SlotId} {b hi lo : Byte} {s : State} {sl : Slot} {e : Edit}

theorem slotIdArg_eq_some (h : b.toNat = id.val) : slotIdArg b = some id := by
  have hb : b.toNat < 24 := h ▸ id.isLt
  exact (dif_pos hb).trans (congrArg some (Fin.ext h))

theorem slotIdArg_eq_none (h : 24 ≤ b.toNat) : slotIdArg b = none :=
  dif_neg (by omega)

theorem stageMoveWith_badArgument (h : 24 ≤ b.toNat ∨ 65534 < be16 hi lo) :
    stageMoveWith p [b, hi, lo] s = refuse .badArgument s := by
  simp only [stageMoveWith]
  rcases h with h | h
  · rw [slotIdArg_eq_none h]
  · rw [within_eq_none (.inr h)]
    cases slotIdArg b <;> rfl

theorem stageMoveWith_target (hb : b.toNat = id.val) (hp : be16 hi lo ≤ 65534) :
    stageMoveWith p [b, hi, lo] s = stageTarget p id (.move id (be16 hi lo)) s := by
  simp only [stageMoveWith, slotIdArg_eq_some hb, within_eq_some (Nat.zero_le _) hp]

theorem stageDropWith_target (hb : b.toNat = id.val) : stageDropWith p [b] s = stageTarget p id (.drop id) s := by
  simp only [stageDropWith, slotIdArg_eq_some hb]

theorem nextSlot_eq_none (h : ∀ sl ∈ s.nextPlan, sl.id ≠ id) : nextSlot s id = none :=
  List.find?_eq_none.mpr fun sl hsl => by simpa using h sl hsl

theorem stageTarget_notFound (hnext : ∀ sl ∈ s.nextPlan, sl.id ≠ id)
    (hadds : ∀ sl, Edit.add sl ∈ look s.staging p → sl.id ≠ id) : stageTarget p id e s = refuse .notFound s := by
  unfold stageTarget
  rw [nextSlot_eq_none hnext]
  refine if_neg fun h => ?_
  obtain ⟨sl, hsl, hid⟩ := mem_reservedIds.mp (List.contains_iff_mem.mp h)
  exact hadds sl hsl hid

theorem stageTarget_notOwner (hx : nextSlot s id = some sl) (ho : sl.owner ≠ p) :
    stageTarget p id e s = refuse .notOwner s := by
  unfold stageTarget
  rw [hx]
  exact if_pos ho

/-- The session may target the id: a slot of its own in the next plan, or an ADD of its own staging area (05 R92). -/
def targets (s : State) (p : Port) (id : SlotId) : Prop :=
  (∃ sl, nextSlot s id = some sl ∧ sl.owner = p)
    ∨ (∀ sl ∈ s.nextPlan, sl.id ≠ id) ∧ ∃ sl, Edit.add sl ∈ look s.staging p ∧ sl.id = id

theorem stageTarget_targets (h : targets s p id) :
    stageTarget p id e s = if 8 ≤ (look s.staging p).length then refuse .full s else appendEdit p e [] s := by
  unfold stageTarget stagingFull
  simp only [decide_eq_true_eq]
  rcases h with ⟨sl, hx, ho⟩ | ⟨hnext, sl, hsl, hid⟩
  · rw [hx]
    exact if_neg (not_not.mpr ho)
  · rw [nextSlot_eq_none hnext]
    exact if_pos (List.contains_iff_mem.mpr (mem_reservedIds.mpr ⟨sl, hsl, hid⟩))

end Targets

/-- Settles O40: both requests share the checks of their target. -/
theorem stageMoveAndDrop : Obligations.StageMoveAndDrop := by
  intro p q b hi lo s ho
  refine ⟨fun h hbad => sessionRequest_refused h ho rfl (stageMoveWith_badArgument hbad),
    fun h hbad => sessionRequest_refused h ho rfl (by simp only [stageDropWith, slotIdArg_eq_none hbad]), fun id hb hp =>
      ⟨fun hnext hadds => ⟨fun h => ?_, fun h => ?_⟩, fun sl hx hne => ⟨fun h => ?_, fun h => ?_⟩,
        fun htarget => ⟨fun hfull => ⟨fun h => ?_, fun h => ?_⟩, fun hroom => ⟨fun h => ?_, fun h => ?_⟩⟩⟩⟩
  · exact sessionRequest_refused h ho rfl ((stageMoveWith_target hb hp).trans (stageTarget_notFound hnext hadds))
  · exact sessionRequest_refused h ho rfl ((stageDropWith_target hb).trans (stageTarget_notFound hnext hadds))
  · exact sessionRequest_refused h ho rfl ((stageMoveWith_target hb hp).trans (stageTarget_notOwner hx hne))
  · exact sessionRequest_refused h ho rfl ((stageDropWith_target hb).trans (stageTarget_notOwner hx hne))
  · exact sessionRequest_refused h ho rfl
      ((stageMoveWith_target hb hp).trans ((stageTarget_targets (by exact htarget)).trans (if_pos hfull)))
  · exact sessionRequest_refused h ho rfl ((stageDropWith_target hb).trans ((stageTarget_targets (by exact htarget)).trans (if_pos hfull)))
  · exact sessionRequest_answered h ho rfl
      ((stageMoveWith_target hb hp).trans ((stageTarget_targets (by exact htarget)).trans (if_neg (Nat.not_le.mpr hroom))))
  · exact sessionRequest_answered h ho rfl
      ((stageDropWith_target hb).trans ((stageTarget_targets (by exact htarget)).trans (if_neg (Nat.not_le.mpr hroom))))

end Sys2Proof.Machine

/-! How a COMMIT builds and checks its copy, and when it fails (05 R95 to R97, R100). -/

namespace Sys2Proof.Machine

/-! ### The building of the copy -/

section Building

variable {s : State} {p : Port} {c d : PlanCopy} {e : Edit} {edits : List Edit}

/-- The building fails at the first edit that fails on what the edits before it have made (05 R96). -/
theorem applyEdits_eq_error {i j : Nat} {st : Status} : applyEdits s p i edits c = .error (j, st)
    ↔ ∃ before e after m, edits = before ++ e :: after ∧ i + before.length = j ∧ editsApplied s p before c m
        ∧ applyEdit s p m e = .error st := by
  induction edits generalizing i c with
  | nil => simp [applyEdits]
  | cons e es ih =>
    unfold applyEdits
    cases hx : applyEdit s p c e with
    | error st' =>
      constructor
      · intro h
        obtain ⟨rfl, rfl⟩ : i = j ∧ st' = st := by simpa using h
        exact ⟨[], e, es, c, rfl, rfl, rfl, hx⟩
      · rintro ⟨before, x, after, m, hsplit, hj, happlied, herror⟩
        cases before with
        | nil =>
          obtain ⟨rfl, rfl⟩ : e = x ∧ es = after := by simpa using hsplit
          obtain rfl : m = c := happlied
          rw [hx] at herror
          obtain rfl : st' = st := by simpa using herror
          exact congrArg _ (congrArg (·, st') hj)
        | cons y before =>
          obtain ⟨rfl, -⟩ : e = y ∧ es = before ++ x :: after := by simpa using hsplit
          obtain ⟨n, hn, -⟩ := happlied
          rw [hx] at hn
          cases hn
    | ok n =>
      refine ih.trans ⟨?_, ?_⟩
      · rintro ⟨before, x, after, m, rfl, hj, happlied, herror⟩
        exact ⟨e :: before, x, after, m, rfl, by rw [List.length_cons]; omega, ⟨n, hx, happlied⟩, herror⟩
      · rintro ⟨before, x, after, m, hsplit, hj, happlied, herror⟩
        cases before with
        | nil =>
          obtain ⟨rfl, rfl⟩ : e = x ∧ es = after := by simpa using hsplit
          obtain rfl : m = c := happlied
          rw [hx] at herror
          cases herror
        | cons y before =>
          obtain ⟨rfl, rfl⟩ : e = y ∧ es = before ++ x :: after := by simpa using hsplit
          obtain ⟨k, hk, happlied⟩ := happlied
          obtain rfl : n = k := by simpa [hx] using hk
          exact ⟨before, x, after, m, rfl, by rw [List.length_cons] at hj; omega, happlied, herror⟩

theorem applyEdits_eq_ok (h : editsApplied s p edits c d) (i : Nat) : applyEdits s p i edits c = .ok d := by
  induction edits generalizing i c with
  | nil =>
    obtain rfl : d = c := h
    rfl
  | cons e es ih =>
    obtain ⟨m, hm, h⟩ := h
    unfold applyEdits
    rw [hm]
    exact ih h (i + 1)

theorem standsBefore_le {a b : Slot} (h : standsBefore a b = true) : a.phase ≤ b.phase := by
  unfold standsBefore at h
  split at h
  · omega
  · exact (of_decide_eq_true h).le

theorem le_of_not_standsBefore {a b : Slot} (h : ¬standsBefore a b = true) : b.phase ≤ a.phase := by
  unfold standsBefore at h
  split at h
  · omega
  · simpa using h

theorem insertSlot_sorted (x : Slot) {slots : List Slot} (h : slots.Pairwise fun x y => x.phase ≤ y.phase) :
    (insertSlot x slots).Pairwise fun x y => x.phase ≤ y.phase := by
  induction slots with
  | nil => exact List.pairwise_singleton _ _
  | cons y ys ih =>
    obtain ⟨hy, hys⟩ := List.pairwise_cons.mp h
    unfold insertSlot
    split
    · next hx =>
      have hxy := standsBefore_le hx
      refine List.pairwise_cons.mpr ⟨fun z hz => ?_, h⟩
      rcases List.mem_cons.mp hz with rfl | hz
      · exact hxy
      · exact hxy.trans (hy z hz)
    · next hx =>
      refine List.pairwise_cons.mpr ⟨fun z hz => ?_, ih hys⟩
      rcases List.mem_cons.mp ((insertSlot_perm x ys).mem_iff.mp hz) with rfl | hz
      · exact le_of_not_standsBefore hx
      · exact hy z hz

theorem inPhaseOrder_sorted (slots : List Slot) : (inPhaseOrder slots).Pairwise fun x y => x.phase ≤ y.phase := by
  induction slots with
  | nil => exact List.Pairwise.nil
  | cons x xs ih => exact insertSlot_sorted x ih

theorem buildCopy_eq_error {i : Nat} {st : Status} : buildCopy s p = .error (i, st)
    ↔ applyEdits s p 0 (look s.staging p) { timing := s.nextTiming, slots := s.nextPlan } = .error (i, st) := by
  unfold buildCopy
  cases applyEdits s p 0 (look s.staging p) { timing := s.nextTiming, slots := s.nextPlan } <;> simp

theorem applyEdits_taken (code : Byte) (q : LinkSeq) (payload : List Byte) (x : Port) (i : Nat) :
    applyEdits (taken s x code q payload) p i edits c = applyEdits s p i edits c := by
  induction edits generalizing i c with
  | nil => rfl
  | cons e es ih =>
    have hone : applyEdit (taken s x code q payload) p c e = applyEdit s p c e := by cases e <;> rfl
    unfold applyEdits
    rw [hone]
    cases applyEdit s p c e with
    | ok m => exact ih (i + 1)
    | error st => rfl

theorem buildCopy_taken (code : Byte) (q : LinkSeq) (payload : List Byte) (x : Port) :
    buildCopy (taken s x code q payload) p = buildCopy s p := by
  unfold buildCopy
  rw [applyEdits_taken]
  rfl

end Building

/-! ### What offends -/

section Offences

variable {c : PlanCopy} {slots : List Slot} {id : SlotId} {e : Edit}

theorem mem_overlapping : id ∈ overlapping slots
    ↔ ∃ before a b after, slots = before ++ a :: b :: after ∧ b.phase < a.ends ∧ (id = a.id ∨ id = b.id) := by
  induction slots using overlapping.induct with
  | case1 => simp [overlapping]
  | case2 x => simp [overlapping, List.singleton_eq_append_iff]
  | case3 x y rest ih =>
    rw [overlapping, List.mem_append, ih]
    constructor
    · rintro (h | ⟨before, a, b, after, hs, hover, hid⟩)
      · by_cases hover : y.phase < x.ends
        · rw [if_pos hover] at h
          exact ⟨[], x, y, rest, rfl, hover, by simpa using h⟩
        · rw [if_neg hover] at h
          cases h
      · exact ⟨x :: before, a, b, after, congrArg (x :: ·) hs, hover, hid⟩
    · rintro ⟨_ | ⟨u, before⟩, a, b, after, hs, hover, hid⟩
      · obtain ⟨rfl, rfl, rfl⟩ : x = a ∧ y = b ∧ rest = after := by simpa using hs
        exact .inl (by rw [if_pos hover]; simpa using hid)
      · exact .inr ⟨before, a, b, after, (List.cons.inj hs).2, hover, hid⟩

theorem endsLate_iff {x : Slot} : endsLate c x ↔ c.slots.getLast? = some x ∧ c.timing.limit < x.ends := by
  rw [List.getLast?_eq_some_iff]
  exact Iff.rfl

theorem offendingId_iff : offendingId c id ↔ id ∈ offendingSlots c := by
  unfold offendingSlots offendingId
  rw [List.mem_append, List.mem_append, mem_overlapping]
  simp only [endsLate_iff]
  cases c.slots.getLast? with
  | none => simp [and_assoc, eq_comm, Slot.ends, Slot.occupancy]
  | some l =>
    by_cases h : c.timing.limit < l.phase + (l.sampleTicks + l.resolution.ticks) <;>
      simp [h, or_assoc, and_assoc, eq_comm, Slot.ends, Slot.occupancy]

theorem timingOffends_iff :
    timingOffends c = true ↔ (∃ x, endsLate c x) ∨ ∃ x ∈ c.slots, c.timing.frameLength ≤ x.phase := by
  unfold timingOffends
  simp only [endsLate_iff]
  cases c.slots.getLast? <;> simp

theorem editOffends_iff : editOffends c e = true ↔ offendingEdit c e := by
  cases e with
  | add sl => exact List.contains_iff_mem.trans offendingId_iff.symm
  | move id phase => exact List.contains_iff_mem.trans offendingId_iff.symm
  | drop => exact iff_of_false Bool.false_ne_true not_false
  | timing t => exact timingOffends_iff

/-- The failing edit of INFEASIBLE is the first that offends (05 R97). -/
theorem failingEdit_first (c : PlanCopy) (edits : List Edit) :
    (∀ j e, j < failingEdit c edits → edits[j]? = some e → ¬offendingEdit c e)
      ∧ ∀ e, edits[failingEdit c edits]? = some e → offendingEdit c e := by
  unfold failingEdit
  refine ⟨fun j e hj he => ?_, fun e he => ?_⟩
  · rw [← editOffends_iff]
    obtain ⟨hlt, rfl⟩ := List.getElem?_eq_some_iff.mp he
    simpa using List.not_of_lt_findIdx hj
  · rw [← editOffends_iff]
    obtain ⟨hlt, rfl⟩ := List.getElem?_eq_some_iff.mp he
    exact List.findIdx_getElem

end Offences

/-! ### A single edit -/

section SingleEdit

variable {s : State} {p : Port} {c : PlanCopy} {id : SlotId} {ph : Nat} {x : Slot}

theorem applyEdit_add_notHeld {sl : Slot} (h : ∀ subs, look s.channels sl.channel ≠ .analog p subs) :
    applyEdit s p c (.add sl) = .error .notOwner :=
  if_neg fun hh => by
    obtain ⟨subs, hx⟩ := holdsAnalog_iff_analog.mp hh
    exact h subs hx

theorem applyEdit_add_held {sl : Slot} {subs : List Port} (h : look s.channels sl.channel = .analog p subs) :
    applyEdit s p c (.add sl) = .ok { c with slots := c.slots ++ [{ sl with owner := p }] } :=
  if_pos (holdsAnalog_iff_analog.mpr ⟨subs, h⟩)

theorem applyEdit_target_none (h : ∀ x ∈ c.slots, x.id ≠ id) :
    applyEdit s p c (.move id ph) = .error .notFound ∧ applyEdit s p c (.drop id) = .error .notFound := by
  have hnone : (c.slots.find? fun sl => sl.id == id) = none := List.find?_eq_none.mpr fun x hx => by simpa using h x hx
  unfold applyEdit
  dsimp only
  rw [hnone]
  exact ⟨rfl, rfl⟩

theorem applyEdit_target_other (hx : (c.slots.find? fun y => y.id == id) = some x) (ho : x.owner ≠ p) :
    applyEdit s p c (.move id ph) = .error .notOwner ∧ applyEdit s p c (.drop id) = .error .notOwner := by
  unfold applyEdit
  dsimp only
  rw [hx]
  exact ⟨if_neg ho, if_neg ho⟩

theorem applyEdit_target_own (hx : (c.slots.find? fun y => y.id == id) = some x) (ho : x.owner = p) :
    applyEdit s p c (.move id ph)
        = .ok { c with slots := c.slots.map fun y => if y.id = id then { y with phase := ph } else y }
      ∧ applyEdit s p c (.drop id) = .ok { c with slots := c.slots.filter fun y => y.id != id } := by
  unfold applyEdit
  dsimp only
  rw [hx]
  exact ⟨if_pos ho, if_pos ho⟩

end SingleEdit

/-! ### The decision -/

section CommitDecision

variable {s : State} {p : Port} {n : Byte} {c : PlanCopy} {q : LinkSeq}

theorem commitWith_wrongCount (h : 8 < n.toNat ∨ n.toNat ≠ (look s.staging p).length) :
    commitWith p [n] s = commitFailed p .badArgument (look s.staging p).length s := by
  exact if_pos h

theorem commitWith_empty (hn : n = 0) (h : look s.staging p = []) :
    commitWith p [n] s = (s, .built .ok (commitPayload 0 s)) := by
  subst hn
  unfold commitWith
  dsimp only
  rw [h]
  rfl

theorem commitWith_fails {i : Nat} {st : Status} (hn : n.toNat = (look s.staging p).length) (h8 : n.toNat ≤ 8)
    (hne : look s.staging p ≠ []) (hb : buildCopy s p = .error (i, st)) : commitWith p [n] s = commitFailed p st i s := by
  unfold commitWith
  dsimp only
  rw [if_neg (by omega), if_neg hne, hb]

theorem commitWith_infeasible (hn : n.toNat = (look s.staging p).length) (h8 : n.toNat ≤ 8) (hne : look s.staging p ≠ [])
    (hb : buildCopy s p = .ok c) (hf : feasible c.timing c.slots = false) :
    commitWith p [n] s = commitFailed p .infeasible (failingEdit c (look s.staging p)) s := by
  unfold commitWith
  dsimp only
  rw [if_neg (by omega), if_neg hne, hb]
  exact if_neg (by simp [hf])

theorem commitWith_commits (hn : n.toNat = (look s.staging p).length) (h8 : n.toNat ≤ 8) (hne : look s.staging p ≠ [])
    (hb : buildCopy s p = .ok c) (hf : feasible c.timing c.slots = true) : commitWith p [n] s = commitCopy p c s := by
  unfold commitWith
  dsimp only
  rw [if_neg (by omega), if_neg hne, hb]
  exact if_pos hf

end CommitDecision

/-- Settles O43: the count, the building edit by edit, and the first edit that offends. -/
theorem commitRefused : Obligations.CommitRefused := by
  refine ⟨fun p q n s h ho => ⟨fun hn => sessionRequest_answered h ho rfl (commitWith_wrongCount hn),
    fun hn hempty => sessionRequest_answered h ho rfl (commitWith_empty hn hempty), fun hn h8 hne =>
      ⟨fun i st hb => ?_, fun c hb hf => ⟨failingEdit c (look s.staging p), ?_, failingEdit_first c _⟩⟩⟩, ?_, ?_⟩
  · exact sessionRequest_answered h ho rfl (commitWith_fails hn h8 hne ((buildCopy_taken _ _ _ _).trans hb))
  · exact sessionRequest_answered h ho rfl (commitWith_infeasible hn h8 hne ((buildCopy_taken _ _ _ _).trans hb) hf)
  · rintro p s start rfl
    refine ⟨fun i st => ?_, fun d hd => ⟨{ d with slots := inPhaseOrder d.slots }, ?_, rfl, inPhaseOrder_perm _,
      inPhaseOrder_sorted _⟩⟩
    · rw [buildCopy_eq_error, applyEdits_eq_error]
      simp only [Nat.zero_add]
    · rw [buildCopy, applyEdits_eq_ok hd]
  · exact fun p s c => ⟨fun sl => applyEdit_add_notHeld, fun sl subs => applyEdit_add_held,
      fun id ph => applyEdit_target_none, fun id ph x => applyEdit_target_other, fun id ph x => applyEdit_target_own,
      fun t h => if_neg h, fun t h => if_pos h⟩

end Sys2Proof.Machine

/-! A successful COMMIT: the copy becomes the next plan, and is noted or applied at once (05 R98, R99; 04 R73 to R77). -/

namespace Sys2Proof.Machine

/-! ### The ports are no part of what an apply leaves -/

section Ports

variable {s b w u v : State} {x : Vector LinkPort 4} {ids : List SlotId}

/-- The state with the ports of another. -/
abbrev withPorts (x : Vector LinkPort 4) (s : State) : State := { s with ports := x }

theorem monitorsFreed_ports (h : monitorsFreed ids (withPorts x s) w) : monitorsFreed ids s (withPorts s.ports w) := by
  obtain ⟨hframe, hmonitors⟩ := h
  exact ⟨congrArg (withPorts s.ports) hframe, hmonitors⟩

theorem planReplaced_ports (h : planReplaced (withPorts x s) w) : planReplaced s (withPorts s.ports w) := by
  obtain ⟨d, hd, hframe, hsame, hchanged⟩ := h
  exact ⟨_, monitorsFreed_ports hd, congrArg (withPorts s.ports) hframe, hsame, hchanged⟩

theorem frameZero_ports {st : TimebaseState} {ks : List EventKind} (h : frameZero st ks s v) :
    frameZero st ks (withPorts x s) (withPorts x v) :=
  congrArg (withPorts x) h

theorem zeroArrival_ports (h : zeroArrival s w) : zeroArrival (withPorts x s) (withPorts x w) := by
  obtain ⟨hnone, hat⟩ := h
  refine ⟨fun hphases => congrArg (withPorts x) (hnone hphases), fun before a after hplan hbefore hphase => ?_⟩
  obtain ⟨hidle, hdue⟩ := hat before a after hplan hbefore hphase
  refine ⟨fun h => congrArg (withPorts x) (hidle h), fun hv hd => ⟨fun hr => ?_, fun hr => ?_⟩⟩
  · exact congrArg (withPorts x) ((hdue hv hd).1 hr)
  · exact congrArg (withPorts x) ((hdue hv hd).2 hr)

end Ports

/-! ### The immediate apply -/

section Apply

variable {b w u : State} {slots : List Slot} {timing : Timing} {tb : Timebase} {x : Vector LinkPort 4}

/-- An immediate apply of the plan `slots` under `timing`, from the timebase record `tb`: `w` has the plan replaced, `u` is what
the timebase makes of it (04 R73, R76; 05 R99). -/
def appliedAtOnce (slots : List Slot) (timing : Timing) (tb : Timebase) (b w u : State) : Prop :=
  planReplaced b w
    ∧ (slots = [] →
      u = { w with timebase := { tb with state := .stopped, frameNumber := 0, elapsed := 0, boundaryDue := false } })
    ∧ (slots ≠ [] → timing.mode = .free → ∃ v, frameZero .freeRun [.timebaseStarted] w v ∧ zeroArrival v u)
    ∧ (slots ≠ [] → timing.mode = .external → tb.state = .stopped →
      u = { w with timebase := { tb with state := .hunting 0 } })
    ∧ (∀ k, slots ≠ [] → timing.mode = .external → tb.state = .hunting k →
      (k < 4 * timing.frameLength → u = w)
      ∧ (4 * timing.frameLength ≤ k → ∃ v, frameZero .flywheel [.timebaseStarted, .syncLost 0] w v ∧ zeroArrival v u))

theorem appliedAtOnce_ports (h : appliedAtOnce slots timing tb (withPorts x b) w u) :
    appliedAtOnce slots timing tb b (withPorts b.ports w) (withPorts b.ports u) := by
  obtain ⟨hreplaced, hstops, hruns, hhunts, hlimit⟩ := h
  refine ⟨planReplaced_ports hreplaced, fun hs => congrArg (withPorts b.ports) (hstops hs), fun hs hm => ?_,
    fun hs hm hx => congrArg (withPorts b.ports) (hhunts hs hm hx), fun k hs hm hx =>
      ⟨fun hk => congrArg (withPorts b.ports) ((hlimit k hs hm hx).1 hk), fun hk => ?_⟩⟩
  · obtain ⟨v, hv, hu⟩ := hruns hs hm
    exact ⟨_, frameZero_ports hv, zeroArrival_ports hu⟩
  · obtain ⟨v, hv, hu⟩ := (hlimit k hs hm hx).2 hk
    exact ⟨_, frameZero_ports hv, zeroArrival_ports hu⟩

/-- What an immediate apply is, up to the arbiter's decision (05 R99). -/
theorem immediateApply_applied (hactive : (b.activePlan.map fun a => a.slot.id).Nodup)
    (hnext : (b.nextPlan.map fun x => x.id).Nodup) :
    ∃ w u, appliedAtOnce b.nextPlan b.nextTiming b.timebase b w u ∧ immediateApply b = arbitrate u := by
  obtain ⟨w, hw⟩ : ∃ w, w = planChanged (changesPlan b) (replacePlan b) := ⟨_, rfl⟩
  have hreplaced : planReplaced b w := hw ▸ replacePlan_planReplaced b hactive
  obtain ⟨hplan, htimebase, htiming⟩ := planReplaced_plan hreplaced
  have hids : (w.activePlan.map fun a => a.slot.id).Nodup := by
    rw [hplan, List.map_map]
    exact hnext
  have hempty : b.nextPlan = [] → w.activePlan.isEmpty = true := fun h => by rw [hplan, h]; rfl
  have hslots : b.nextPlan ≠ [] → ¬w.activePlan.isEmpty = true := fun h => by rw [hplan]; simpa using h
  refine ⟨w, timebaseAfterApply w, ⟨hreplaced, fun hs => ?_, fun hs hm => ?_, fun hs hm hx => ?_, fun k hs hm hx =>
    ⟨fun hk => ?_, fun hk => ?_⟩⟩, by rw [hw]; rfl⟩
  · rw [timebaseAfterApply, if_pos (hempty hs), enterStopped, htimebase]
  all_goals rw [timebaseAfterApply, if_neg (hslots hs), htiming, hm]
  · exact startFrame0_begins .freeRun [] hids
  all_goals rw [htimebase, hx]
  · exact if_neg (by omega)
  · dsimp only
    rw [if_pos (by omega)]
    exact startFrame0_begins .flywheel [.syncLost 0] hids

end Apply

/-! ### The copy installed -/

section Install

variable {s b : State} {p : Port} {c : PlanCopy} {x : Vector LinkPort 4}

/-- The ids of slots that leave the hub with the copy: out of the next plan, and not in the active plan (05 R98). -/
theorem leavingHub_eq (s : State) (c : PlanCopy) :
    leavingHub s c = (s.nextPlan.map fun x => x.id).filter fun id =>
      !(c.slots.any fun x => x.id == id) && !(s.activePlan.any fun a => a.slot.id == id) := rfl

theorem installCopy_monitorsFreed (hids : idPoolLawful s) :
    monitorsFreed (leavingHub s c) { s with nextPlan := c.slots, nextTiming := c.timing, staging := put s.staging p [] }
      (installCopy p c s) :=
  detachLeavings_monitorsFreed _ _ (hids.1.sublist List.filter_sublist)

/-- The fields of the plan unit after the copy has been installed. -/
theorem monitorsFreed_plan {ids : List SlotId} (h : monitorsFreed ids s b) :
    b.nextPlan = s.nextPlan ∧ b.nextTiming = s.nextTiming ∧ b.timebase = s.timebase ∧ b.activePlan = s.activePlan
      ∧ b.noted = s.noted := by
  rw [h.1]
  exact ⟨rfl, rfl, rfl, rfl, rfl⟩

theorem arbitrate_withPorts {u : State} (h : u.ports = x) (v : Vector LinkPort 4) :
    arbitrate u = { arbitrate (withPorts v u) with ports := x } := by
  subst h
  exact arbitrate_ports (withPorts v u) u.ports

theorem commitPayload_eq (n : Nat) (s : State) :
    commitPayload n s = half n ++ [byte s.nextPlan.length] ++ gapField (largestGap s.nextTiming s.nextPlan) := rfl

theorem commitCopy_running (hrun : running s = true) : commitCopy p c s
    = (arbitrate (setNoted p true (installCopy p c s)),
        .built .accepted (commitPayload (s.timebase.frameNumber + 1).toNat (installCopy p c s))) :=
  if_pos hrun

theorem commitCopy_stopped (hrun : running s = false) : commitCopy p c s
    = (immediateApply (installCopy p c s), .built .ok (commitPayload 0 (installCopy p c s))) :=
  if_neg (by simp [hrun])

end Install

/-- Settles O44: the copy installed, and noted or applied at once. -/
theorem commitNotedOrApplied : Obligations.CommitNotedOrApplied := by
  intro p q n s c h ho hn h8 hne hb hf hids
  obtain ⟨x, hx⟩ : ∃ x, x = taken s p 0x35 q [n] := ⟨_, rfl⟩
  obtain ⟨y, hy⟩ : ∃ y, y = installCopy p c x := ⟨_, rfl⟩
  have hfreed := hy ▸ installCopy_monitorsFreed (s := x) (p := p) (c := c) (by rw [hx]; exact hids)
  obtain ⟨hplan, htiming, htimebase, hactive, hnoted⟩ := monitorsFreed_plan hfreed
  have hslots : y.nextPlan = c.slots := hplan
  have htime : y.nextTiming = c.timing := htiming
  have hnotes : y.noted = s.noted := by rw [hnoted, hx]; rfl
  have hframe : x.timebase = s.timebase := by rw [hx]; rfl
  have hports : y.ports = x.ports := by rw [hy]; simp
  have hcommit : commitWith p [n] x = commitCopy p c x := by
    rw [hx]
    exact commitWith_commits hn h8 hne ((buildCopy_taken _ _ _ _).trans hb) hf
  refine ⟨withPorts s.ports y, monitorsFreed_ports (x := x.ports) (by rw [hx] at hfreed ⊢; exact hfreed), fun hrun => ?_,
    fun hrun => ?_⟩
  · refine sessionRequest_answered h ho rfl ?_
    have hrunx : running x = true := by rw [hx]; exact hrun
    rw [← hx, hcommit, commitCopy_running hrunx, ← hy]
    refine Prod.ext ?_ (congrArg (Answer.built .accepted) ?_)
    · rw [setNoted, hnotes]
      exact arbitrate_withPorts (u := { y with noted := put s.noted p true }) hports s.ports
    · rw [commitPayload_eq, hslots, htime, hframe]
  · have hrunx : running x = false := by rw [hx]; exact hrun
    have hactiveIds : (y.activePlan.map fun a => a.slot.id).Nodup := by rw [hactive, hx]; exact hids.2.1
    have hnextIds : (y.nextPlan.map fun x => x.id).Nodup := by rw [hslots]; exact (buildCopy_ids hb hids).1
    obtain ⟨w, u, happlied, hdecides⟩ := immediateApply_applied hactiveIds hnextIds
    have huports : u.ports = x.ports := by
      have hsame : (immediateApply y).ports = (arbitrate u).ports := congrArg State.ports hdecides
      simpa [hports] using hsame.symm
    rw [hslots, htime, htimebase, hframe] at happlied
    obtain ⟨hreplaced, hends⟩ := appliedAtOnce_ports (b := withPorts s.ports y) happlied
    refine ⟨_, withPorts s.ports u, hreplaced, sessionRequest_answered h ho rfl ?_, hends⟩
    rw [← hx, hcommit, commitCopy_stopped hrunx, ← hy, hdecides]
    refine Prod.ext (arbitrate_withPorts huports s.ports) (congrArg (Answer.built .ok) ?_)
    rw [commitPayload_eq, hslots, htime]
    rfl

end Sys2Proof.Machine

/-! The queues that a host empties: FETCH_RESULTS and FETCH_EVENTS, and the bytes of the records (07 R139, 09 R163, 11.6). -/

namespace Sys2Proof.Machine

section Fetch

variable {p : Port} {b : Byte} {s : State}

theorem fetchResultsWith_badArgument (h : b.toNat < 1 ∨ 4 < b.toNat) : fetchResultsWith p [b] s = refuse .badArgument s := by
  simp only [fetchResultsWith, within_eq_none h]

theorem fetchEventsWith_badArgument (h : b.toNat < 1 ∨ 4 < b.toNat) : fetchEventsWith p [b] s = refuse .badArgument s := by
  simp only [fetchEventsWith, within_eq_none h]

/-- The records that a fetch of at most `n` removes are the first `n` of the queue, and the rest stays. -/
theorem take_drop_of_fetched {α : Type} {n : Nat} {gone left : List α} (h : gone.length = min n (gone ++ left).length) :
    (gone ++ left).take n = gone ∧ (gone ++ left).drop n = left := by
  have htake : (gone ++ left).take n = gone := by
    rw [List.take_eq_take_min, ← h, List.take_left]
  refine ⟨htake, List.append_cancel_left (as := gone) ?_⟩
  calc gone ++ (gone ++ left).drop n
      = (gone ++ left).take n ++ (gone ++ left).drop n := by rw [htake]
    _ = gone ++ left := List.take_append_drop n _

theorem fetchResultsWith_removes {gone left : List ResultRecord} (h1 : 1 ≤ b.toNat) (h4 : b.toNat ≤ 4)
    (hq : (look s.results p).records = gone ++ left)
    (hlength : gone.length = min b.toNat (look s.results p).records.length) :
    fetchResultsWith p [b] s = ({ s with results := put s.results p { look s.results p with records := left, overflow := 0 } },
      .built .ok ([byte gone.length, byte left.length] ++ half (look s.results p).overflow ++ gone.flatMap resultBytes)) := by
  rw [hq] at hlength
  obtain ⟨htake, hdrop⟩ := take_drop_of_fetched hlength
  simp only [fetchResultsWith, within_eq_some h1 h4, hq, htake, hdrop, List.length_append, Nat.add_sub_cancel_left,
    setResults]

theorem fetchEventsWith_removes {gone left : List EventRecord} (h1 : 1 ≤ b.toNat) (h4 : b.toNat ≤ 4)
    (hq : (look s.events p).records = gone ++ left)
    (hlength : gone.length = min b.toNat (look s.events p).records.length) :
    fetchEventsWith p [b] s = ({ s with events := put s.events p { records := left, lost := 0 } },
      .built .ok ([byte gone.length, byte left.length, byte (look s.events p).lost] ++ gone.flatMap eventBytes)) := by
  rw [hq] at hlength
  obtain ⟨htake, hdrop⟩ := take_drop_of_fetched hlength
  simp only [fetchEventsWith, within_eq_some h1 h4, hq, htake, hdrop, List.length_append, Nat.add_sub_cancel_left,
    setEvents]

end Fetch

/-- The weights of the flags of a result record, bit by bit (11.6.2). -/
theorem byte_resultFlags : ∀ late missed cancelled unschedulable cross : Bool,
    let b := byte ((if late then 1 else 0) + (if missed then 2 else 0) + (if cancelled then 4 else 0)
      + (if unschedulable then 8 else 0) + (if cross then 16 else 0))
    b.getLsbD 0 = late ∧ b.getLsbD 1 = missed ∧ b.getLsbD 2 = cancelled ∧ b.getLsbD 3 = unschedulable
      ∧ b.getLsbD 4 = cross ∧ b.getLsbD 5 = false ∧ b.getLsbD 6 = false ∧ b.getLsbD 7 = false := by decide

/-- Settles O52: the two fetches share the cut of a queue; the bytes of a record go by its fields. -/
theorem fetchRemovesFromHead : Obligations.FetchRemovesFromHead := by
  refine ⟨fun p q b s ho => ⟨fun h => ⟨fun hbad => ?_, fun h1 h4 gone left hq hlength => ?_⟩,
    fun h => ⟨fun hbad => ?_, fun h1 h4 gone left hq hlength => ?_⟩⟩, fun r => ⟨resultFlagsByte r.flags, ?_, ?_⟩,
    fun frame => ⟨fun _ => rfl, fun _ cause => ?_, fun _ => rfl, fun _ _ z _ => ?_, fun _ _ => rfl, fun _ => rfl, rfl,
      fun r => ?_, rfl, rfl, fun _ => rfl⟩⟩
  · exact sessionRequest_refused h ho rfl (fetchResultsWith_badArgument hbad)
  · exact sessionRequest_answered h ho rfl (fetchResultsWith_removes (by exact h1) h4 (by exact hq) (by exact hlength))
  · exact sessionRequest_refused h ho rfl (fetchEventsWith_badArgument hbad)
  · exact sessionRequest_answered h ho rfl (fetchEventsWith_removes (by exact h1) h4 (by exact hq) (by exact hlength))
  · obtain ⟨sequence, source, channel, resolution, reference, averaging, flags, value, frame, startPhase, lateness⟩ := r
    have hsource : sourceKindByte source = (match source with | .slot _ => 0 | .request _ => 1)
        ∧ sourceIdByte source = match source with | .slot id => byte id.val | .request tag => tag := by
      cases source <;> exact ⟨rfl, rfl⟩
    unfold resultBytes
    rw [hsource.1, hsource.2, latenessByte_eq]
    cases value <;> cases frame <;> cases startPhase <;> rfl
  · exact byte_resultFlags _ _ _ _ _
  · cases cause <;> rfl
  · cases z <;> rfl
  · cases r <;> rfl

end Sys2Proof.Machine

/-! Monitors: ATTACH_MONITOR, DETACH_MONITOR and the monitor of a slot (08 R145 to R149). -/

namespace Sys2Proof.Machine

section Attach

variable {p : Port} {id : SlotId} {b lHi lLo hHi hLo n : Byte} {m : MonitorId} {s : State} {a : MonitorArgs} {sl : Slot}

theorem monitorArgs_eq_some (hb : b.toNat = id.val) (hle : be16 lHi lLo ≤ be16 hHi hLo) (hmax : be16 hHi hLo ≤ 4095)
    (h1 : 1 ≤ n.toNat) (h8 : n.toNat ≤ 8) : monitorArgs b lHi lLo hHi hLo n
      = some { slot := id, lowLimit := be16 lHi lLo, highLimit := be16 hHi hLo, filterCount := n.toNat } := by
  unfold monitorArgs
  rw [slotIdArg_eq_some hb, within_eq_some (Nat.zero_le _) hmax, within_eq_some h1 h8]
  simp only [Option.bind_eq_bind, Option.bind_some]
  rw [within_eq_some (Nat.zero_le _) hle]
  rfl

/-- One argument of ATTACH_MONITOR out of its range leaves no arguments (08 R147). -/
theorem monitorArgs_eq_none (h : 24 ≤ b.toNat ∨ 4095 < be16 lHi lLo ∨ 4095 < be16 hHi hLo ∨ be16 hHi hLo < be16 lHi lLo
      ∨ n.toNat < 1 ∨ 8 < n.toNat) : monitorArgs b lHi lLo hHi hLo n = none := by
  refine Option.eq_none_iff_forall_not_mem.mpr fun x hx => ?_
  simp only [monitorArgs, Option.bind_eq_bind, Option.mem_def, Option.bind_eq_some_iff, within_eq_some_iff] at hx
  obtain ⟨slot, hslot, high, ⟨rfl, -, hhigh⟩, low, ⟨rfl, -, hlow⟩, count, ⟨rfl, h1, h8⟩, -⟩ := hx
  rcases h with h | h | h | h | h | h
  · rw [slotIdArg_eq_none h] at hslot
    cases hslot
  all_goals omega

theorem lowestFreeMonitor_eq_some (hfree : look s.monitors m = none)
    (hlow : ∀ lower : MonitorId, lower < m → look s.monitors lower ≠ none) : lowestFreeMonitor s = some m := by
  unfold lowestFreeMonitor allMonitors
  rw [← Fin.find?_eq_find?_finRange, Fin.find?_eq_some_iff]
  exact ⟨Option.isNone_iff_eq_none.mpr hfree, fun lower hlt => by simpa [Option.isSome_iff_ne_none] using hlow lower hlt⟩

theorem lowestFreeMonitor_eq_none (h : ∀ m, look s.monitors m ≠ none) : lowestFreeMonitor s = none :=
  List.find?_eq_none.mpr fun m _ => by simpa using h m

theorem attachMonitorWith_attachTo (h : monitorArgs b lHi lLo hHi hLo n = some a) :
    attachMonitorWith p [b, lHi, lLo, hHi, hLo, n] s = attachTo p a s := by
  simp only [attachMonitorWith, h]

theorem attachTo_notFound (h : ∀ sl ∈ s.nextPlan, sl.id ≠ a.slot) : attachTo p a s = refuse .notFound s := by
  unfold attachTo
  rw [nextSlot_eq_none h]

theorem attachTo_notOwner (hx : nextSlot s a.slot = some sl) (ho : sl.owner ≠ p) : attachTo p a s = refuse .notOwner s := by
  unfold attachTo
  rw [hx]
  exact if_pos ho

theorem attachTo_inUse (hx : nextSlot s a.slot = some sl) (ho : sl.owner = p)
    (h : ∃ m r, look s.monitors m = some r ∧ r.slot = a.slot) : attachTo p a s = refuse .inUse s := by
  have hused : (monitorOf s a.slot).isSome = true := by
    obtain ⟨m, r, hr, hslot⟩ := h
    refine Option.isSome_iff_ne_none.mpr fun hnone => ?_
    exact not_named_of_monitorOf hnone m r hr hslot
  unfold attachTo
  rw [hx]
  exact (if_neg (not_not.mpr ho)).trans (if_pos hused)

theorem attachTo_full (hx : nextSlot s a.slot = some sl) (ho : sl.owner = p)
    (h : ∀ m r, look s.monitors m = some r → r.slot ≠ a.slot) (hused : ∀ m, look s.monitors m ≠ none) :
    attachTo p a s = refuse .full s := by
  unfold attachTo
  rw [hx, monitorOf_eq_none h, lowestFreeMonitor_eq_none hused]
  exact if_neg (not_not.mpr ho)

theorem attachTo_attaches (hx : nextSlot s a.slot = some sl) (ho : sl.owner = p)
    (h : ∀ m r, look s.monitors m = some r → r.slot ≠ a.slot) (hfree : look s.monitors m = none)
    (hlow : ∀ lower : MonitorId, lower < m → look s.monitors lower ≠ none) :
    attachTo p a s = (setMonitor m (some (a.attached p)) s, .built .ok [byte m.val]) := by
  unfold attachTo
  rw [hx, monitorOf_eq_none h, lowestFreeMonitor_eq_some hfree hlow]
  exact if_neg (not_not.mpr ho)

end Attach

theorem monitorOf_eq_some_iff {s : State} {id : SlotId} {m : MonitorId} : monitorOf s id = some m
    ↔ (∃ r, look s.monitors m = some r ∧ r.slot = id)
      ∧ ∀ (n : MonitorId) (r : Monitor), n < m → look s.monitors n = some r → r.slot ≠ id := by
  refine ⟨fun h => ⟨monitorOf_names h, fun n r hn hr hid => ?_⟩, fun ⟨⟨r, hr, hid⟩, hlow⟩ => monitorOf_eq_some hr hid hlow⟩
  unfold monitorOf allMonitors at h
  rw [← Fin.find?_eq_find?_finRange, Fin.find?_eq_some_iff] at h
  have hlower := h.2 n hn
  simp [hr, hid] at hlower

section Detach

variable {p : Port} {b : Byte} {m : MonitorId} {s : State} {r : Monitor}

theorem detachMonitorWith_badArgument (h : 8 ≤ b.toNat) : detachMonitorWith p [b] s = refuse .badArgument s := by
  simp only [detachMonitorWith, monitorIdArg_eq_none h]

theorem detachMonitorWith_notFound (hb : b.toNat = m.val) (h : look s.monitors m = none) :
    detachMonitorWith p [b] s = refuse .notFound s := by
  simp only [detachMonitorWith, monitorIdArg_eq_some hb, h]

theorem detachMonitorWith_notOwner (hb : b.toNat = m.val) (h : look s.monitors m = some r) (ho : r.owner ≠ p) :
    detachMonitorWith p [b] s = refuse .notOwner s := by
  simp only [detachMonitorWith, monitorIdArg_eq_some hb, h, if_neg ho]

theorem detachMonitorWith_frees (hb : b.toNat = m.val) (h : look s.monitors m = some r) (ho : r.owner = p) :
    detachMonitorWith p [b] s = (freeMonitor m s,
      .built .ok [byte r.slot.val, zoneByte r.zone, candidateByte r.candidate, byte r.runCount]) := by
  simp only [detachMonitorWith, monitorIdArg_eq_some hb, h, if_pos ho]

end Detach

/-- Settles O53, by the slot and the free records for ATTACH_MONITOR, by the record for DETACH_MONITOR. -/
theorem monitorAttachAndDetach : Obligations.MonitorAttachAndDetach := by
  refine ⟨⟨rfl, rfl, rfl, rfl⟩, fun p q b lHi lLo hHi hLo n s h ho => ⟨fun hbad => ?_, fun id hb hle hmax h1 h8 => ?_⟩,
    fun s id m => monitorOf_eq_some_iff, fun p q b s h ho => ⟨fun hbad => ?_, fun m hb => ⟨fun hnone => ?_, fun r hr =>
      ⟨fun hother => ?_, fun hown => ?_⟩⟩⟩⟩
  · exact sessionRequest_refused h ho rfl (by simp only [attachMonitorWith, monitorArgs_eq_none hbad])
  · have hdecision := attachMonitorWith_attachTo (p := p) (s := taken s p 0x50 q [b, lHi, lLo, hHi, hLo, n])
      (monitorArgs_eq_some hb hle hmax h1 h8)
    refine ⟨fun hnext => ?_, fun sl hx => ⟨fun hother => ?_, fun hown hnamed => ?_, fun hown hunnamed =>
      ⟨fun hused => ?_, fun m hfree hlow => ?_⟩⟩⟩
    · exact sessionRequest_refused h ho rfl (hdecision.trans (attachTo_notFound hnext))
    · exact sessionRequest_refused h ho rfl (hdecision.trans (attachTo_notOwner hx hother))
    · exact sessionRequest_refused h ho rfl (hdecision.trans (attachTo_inUse hx hown hnamed))
    · exact sessionRequest_refused h ho rfl
        (hdecision.trans (attachTo_full hx hown hunnamed hused))
    · exact sessionRequest_answered h ho rfl
        (hdecision.trans (attachTo_attaches hx hown hunnamed hfree hlow))
  · exact sessionRequest_refused h ho rfl (detachMonitorWith_badArgument hbad)
  · exact sessionRequest_refused h ho rfl (detachMonitorWith_notFound hb hnone)
  · exact sessionRequest_refused h ho rfl (detachMonitorWith_notOwner hb hr hother)
  · exact sessionRequest_answered h ho rfl (detachMonitorWith_frees hb hr hown)

end Sys2Proof.Machine

/-! SUBMIT: its arguments, the right to submit, and the entry that joins the queue (06 R115, R116, R117). -/

namespace Sys2Proof.Machine

section SubmitArguments

variable {c res st n : Byte} {ch : Channel} {r : Resolution} {a : Averaging}

theorem averagingArg_eq_some (h : n.toNat = a.count) : averagingArg n = some a := by
  unfold averagingArg
  rw [h]
  cases a <;> rfl

theorem averagingArg_eq_none (h : n.toNat ≠ 1 ∧ n.toNat ≠ 2 ∧ n.toNat ≠ 4 ∧ n.toNat ≠ 8) : averagingArg n = none := by
  obtain ⟨h1, h2, h4, h8⟩ := h
  unfold averagingArg
  rw [if_neg h1, if_neg h2, if_neg h4, if_neg h8]

theorem submitArgs_eq_some (hc : c.toNat = ch.val) (hr : res.toNat = r.bits) (hn : n.toNat = a.count) (h2 : 2 ≤ st.toNat)
    (h32 : st.toNat ≤ 32) : submitArgs c res st n
      = some { channel := ch, resolution := r, sampleTicks := st.toNat, averaging := a } := by
  unfold submitArgs
  rw [channelArg_eq_some hc, resolutionArg_eq_some hr, within_eq_some h2 h32, averagingArg_eq_some hn]
  rfl

/-- One argument of SUBMIT out of its range leaves no arguments (06 R115). -/
theorem submitArgs_eq_none (h : 14 ≤ c.toNat ∨ (res.toNat ≠ 8 ∧ res.toNat ≠ 10 ∧ res.toNat ≠ 12) ∨ st.toNat < 2
      ∨ 32 < st.toNat ∨ (n.toNat ≠ 1 ∧ n.toNat ≠ 2 ∧ n.toNat ≠ 4 ∧ n.toNat ≠ 8)) : submitArgs c res st n = none := by
  refine Option.eq_none_iff_forall_not_mem.mpr fun x hx => ?_
  simp only [submitArgs, Option.bind_eq_bind, Option.mem_def, Option.bind_eq_some_iff, within_eq_some_iff] at hx
  obtain ⟨ch, hc, r, hr, ticks, ⟨rfl, h2, h32⟩, a, ha, -⟩ := hx
  rcases h with h | h | h | h | h
  · rw [channelArg_eq_none h] at hc
    cases hc
  · rw [resolutionArg_eq_none h] at hr
    cases hr
  · omega
  · omega
  · rw [averagingArg_eq_none h] at ha
    cases ha

end SubmitArguments

section SubmitRights

variable {p o : Port} {x : ChannelRec} {subs : List Port}

theorem submitRight_notOwner (ho : x.owner ≠ some p) (hs : p ∉ x.subscribers) : submitRight p x = some .notOwner := by
  cases x with
  | free | reference => rfl
  | digital o d | settling o n due => exact if_neg fun e => ho (congrArg some e)
  | analog o subs => exact if_neg fun h => h.elim (fun e => ho (congrArg some e)) hs

theorem submitRight_wrongMode (ho : x.owner = some p) (hn : ∀ subs, x ≠ .analog p subs) :
    submitRight p x = some .wrongMode := by
  cases x with
  | free | reference => cases ho
  | digital o d | settling o n due => exact if_pos (Option.some.inj ho)
  | analog o subs => exact absurd (congrArg (ChannelRec.analog · subs) (Option.some.inj ho)) (hn subs)

theorem submitRight_granted (h : o = p ∨ p ∈ subs) : submitRight p (.analog o subs) = none :=
  if_pos h

end SubmitRights

section SubmitDecision

variable {p : Port} {tag : Byte} {a : SubmitArgs} {s : State} {status : Status}

theorem tagInUse_iff : tagInUse s p tag = true ↔ (∃ e ∈ look s.requests p, e.tag = tag)
    ∨ ∃ f, s.inFlight = some f ∧ f.source = .request tag ∧ f.session = p ∧ f.discard = false := by
  rw [tagInUse, Bool.or_eq_true, tagInFlight_iff]
  simp [tagQueued]

theorem submitEntry_noRight (h : submitRight p (look s.channels a.channel) = some status) :
    submitEntry p tag a s = refuseCounted status p s := by
  simp only [submitEntry, h]

theorem submitEntry_tagInUse (h : submitRight p (look s.channels a.channel) = none) (ht : tagInUse s p tag = true) :
    submitEntry p tag a s = refuseCounted .badArgument p s := by
  simp only [submitEntry, h, if_pos ht]

theorem submitEntry_full (h : submitRight p (look s.channels a.channel) = none) (ht : ¬ tagInUse s p tag = true)
    (hfull : 8 ≤ (look s.requests p).length) : submitEntry p tag a s = refuseCounted .full p s := by
  simp only [submitEntry, h, if_neg ht, if_pos hfull]

theorem submitEntry_unschedulable {g : Nat} (h : submitRight p (look s.channels a.channel) = none)
    (ht : ¬ tagInUse s p tag = true) (hroom : (look s.requests p).length < 8) (hg : activeGap s = some g)
    (hlong : g < (a.entry tag).occupancy) :
    submitEntry p tag a s = (s, .built .unschedulable (half (a.entry tag).occupancy ++ half g)) := by
  have hout : (!withinGap (a.entry tag).occupancy (some g)) = true := by simpa [withinGap] using hlong
  simp only [submitEntry, h, if_neg ht, if_neg (Nat.not_le.mpr hroom), hg, if_pos hout]
  rfl

theorem submitEntry_joins (h : submitRight p (look s.channels a.channel) = none) (ht : ¬ tagInUse s p tag = true)
    (hroom : (look s.requests p).length < 8) (hfits : ∀ g, activeGap s = some g → (a.entry tag).occupancy ≤ g) :
    submitEntry p tag a s = (joinQueue p (a.entry tag) s,
      .built .ok ([byte ((look s.requests p).length + 1)] ++ half (a.entry tag).occupancy ++ gapField (activeGap s))) := by
  have hin : ¬ (!withinGap (a.entry tag).occupancy (activeGap s)) = true := by
    cases hg : activeGap s with
    | none => simp [withinGap]
    | some g => simpa [withinGap] using hfits g hg
  simp only [submitEntry, h, if_neg ht, if_neg (Nat.not_le.mpr hroom), if_neg hin]

end SubmitDecision

/-- Settles O45: the refusals in the order of the table, and the entry that joins. -/
theorem submitJoinsQueue : Obligations.SubmitJoinsQueue := by
  refine ⟨fun s => rfl, fun g => rfl, rfl, ⟨rfl, rfl, rfl, rfl, rfl, rfl, rfl, rfl, rfl, rfl, fun r st a => rfl⟩,
    fun p q tag c res st n s h ho => ⟨fun hbad => ?_, fun ch r a hc hr hn h2 h32 => ?_⟩⟩
  · exact sessionRequest_answered h ho rfl (by simp only [submitWith, submitArgs_eq_none hbad]; rfl)
  · have hdecision : submitWith p [tag, c, res, st, n] (taken s p 0x40 q [tag, c, res, st, n])
        = submitEntry p tag { channel := ch, resolution := r, sampleTicks := st.toNat, averaging := a }
          (taken s p 0x40 q [tag, c, res, st, n]) := by
      simp only [submitWith, submitArgs_eq_some hc hr hn h2 h32]
    refine ⟨fun hother hnosub => ?_, fun hown hmode => ?_, fun o subs hx hright => ⟨fun hused => ?_, fun hunused =>
      ⟨fun hfull => ?_, fun g hroom hg hlong => ?_, fun hroom hfits => ?_⟩⟩⟩
    · exact sessionRequest_answered h ho rfl (hdecision.trans (submitEntry_noRight (submitRight_notOwner hother hnosub)))
    · exact sessionRequest_answered h ho rfl (hdecision.trans (submitEntry_noRight (submitRight_wrongMode hown hmode)))
    all_goals
      have hgranted : submitRight p (look (taken s p 0x40 q [tag, c, res, st, n]).channels ch) = none := by
        exact (congrArg (submitRight p) hx).trans (submitRight_granted hright)
    · exact sessionRequest_answered h ho rfl (hdecision.trans (submitEntry_tagInUse hgranted (tagInUse_iff.mpr hused)))
    · exact sessionRequest_answered h ho rfl
        (hdecision.trans (submitEntry_full hgranted (fun ht => hunused (tagInUse_iff.mp ht)) hfull))
    · exact sessionRequest_answered h ho rfl
        (hdecision.trans (submitEntry_unschedulable hgranted (fun ht => hunused (tagInUse_iff.mp ht)) hroom hg hlong))
    · refine sessionRequest_answered h ho rfl
        ((hdecision.trans (submitEntry_joins hgranted (fun ht => hunused (tagInUse_iff.mp ht)) hroom hfits)).trans ?_)
      exact Prod.ext (arbitrate_withPorts rfl s.ports) rfl

end Sys2Proof.Machine

/-! The fit rule: the next reservation, and what fits before it (01 R19, R20). -/

namespace Sys2Proof.Machine

section Fit

variable {s : State} {d reservation : Nat}

/-- No reservation stands: every occupancy fits (01 R19). -/
theorem fits_of_noReservation (h : nextReservation s = none) : fits s d = true := by
  unfold fits
  rw [h]

/-- An occupancy fits up to the next reservation, from the present tick of the frame (01 R19). -/
theorem fits_iff_of_reservation (h : nextReservation s = some reservation) :
    fits s d = true ↔ s.timebase.ticksPassed + d ≤ reservation := by
  unfold fits
  rw [h]
  exact decide_eq_true_iff

theorem earliestBoundary_stopped (h : running s = false) : earliestBoundary s = none := by
  unfold running at h
  unfold earliestBoundary
  cases hx : s.timebase.state with
  | stopped | hunting n => rfl
  | freeRun | locked | flywheel => simp [hx, TimebaseState.running] at h

theorem earliestBoundary_running (h : running s = true) : ∃ b, earliestBoundary s = some b := by
  unfold running at h
  unfold earliestBoundary
  cases hx : s.timebase.state with
  | stopped | hunting n => simp [hx, TimebaseState.running] at h
  | freeRun | locked | flywheel => exact ⟨_, rfl⟩

theorem earliestBoundary_freeRun (h : s.timebase.state = .freeRun) :
    earliestBoundary s = some s.activeTiming.frameLength := by
  unfold earliestBoundary
  rw [h]

theorem earliestBoundary_synced (h : s.timebase.state = .locked ∨ s.timebase.state = .flywheel) :
    earliestBoundary s = some (s.activeTiming.frameLength - s.activeTiming.window) := by
  unfold earliestBoundary
  rcases h with h | h <;> rw [h]

theorem nextReservation_stopped (h : running s = false) : nextReservation s = none := by
  unfold nextReservation
  rw [earliestBoundary_stopped h]

/-- The first slot, not void, whose arrival has not been taken, is the next reservation (01 R19). -/
theorem nextReservation_slot {before after : List ActiveSlot} {a : ActiveSlot} (h : running s = true)
    (hplan : s.activePlan = before ++ a :: after) (hbefore : ∀ x ∈ before, x.void = true ∨ x.arrived = true)
    (hvoid : a.void = false) (harrived : a.arrived = false) : nextReservation s = some a.slot.phase := by
  obtain ⟨b, hb⟩ := earliestBoundary_running h
  have hskip : (before.find? fun x => !x.void && !x.arrived) = none :=
    List.find?_eq_none.mpr fun x hx => by rcases hbefore x hx with h | h <;> simp [h]
  have hfind : (s.activePlan.find? fun x => !x.void && !x.arrived) = some a := by
    rw [hplan, List.find?_append, hskip, Option.none_or]
    refine List.find?_cons_of_pos ?_
    simp [hvoid, harrived]
  unfold nextReservation
  rw [hb, hfind]

/-- With every arrival taken, the next plan after the earliest boundary reserves (01 R19, R20). -/
theorem nextReservation_nextPlan {b : Nat} (hb : earliestBoundary s = some b)
    (h : ∀ x ∈ s.activePlan, x.void = true ∨ x.arrived = true) :
    nextReservation s = s.nextPlan.head?.map fun x => b + x.phase := by
  have hfind : (s.activePlan.find? fun x => !x.void && !x.arrived) = none :=
    List.find?_eq_none.mpr fun x hx => by rcases h x hx with h | h <;> simp [h]
  unfold nextReservation
  rw [hb, hfind]

end Fit

/-- Settles O48, by the next reservation in each case. -/
theorem fitRule : Obligations.FitRule := by
  intro s d ticks hticks
  have hpassed : ticks = s.timebase.ticksPassed := hticks
  rw [hpassed]
  refine ⟨fun h => fits_of_noReservation (nextReservation_stopped h), fun h =>
    ⟨fun before a after hplan hbefore hvoid harrived =>
      fits_iff_of_reservation (nextReservation_slot h hplan hbefore hvoid harrived), fun hall =>
      ⟨fun hempty => ?_, fun first rest hnext => ⟨fun hfree => ?_, fun hsynced => ?_⟩⟩⟩⟩
  · obtain ⟨b, hb⟩ := earliestBoundary_running h
    exact fits_of_noReservation ((nextReservation_nextPlan hb hall).trans (by rw [hempty]; rfl))
  · exact fits_iff_of_reservation
      ((nextReservation_nextPlan (earliestBoundary_freeRun hfree) hall).trans (by rw [hnext]; rfl))
  · exact fits_iff_of_reservation
      ((nextReservation_nextPlan (earliestBoundary_synced hsynced) hall).trans (by rw [hnext]; rfl))

end Sys2Proof.Machine

/-! The decision of the arbiter: the PENDING slot first, else the heads of the queues in their turn (01 R5 to R7, R15 to R18). -/

namespace Sys2Proof.Machine

section Decision

variable {s : State} {r : Ref} {p : Port} {e : RequestEntry} {rest : List RequestEntry}

theorem arbitrate_blocked (h : s.inFlight.isSome = true ∨ ∀ r, s.reference.state ≠ .steady r false) : arbitrate s = s := by
  have hblocked : (s.inFlight.isSome || !s.reference.state.isSteady) = true := by
    rw [Bool.or_eq_true, Bool.not_eq_true']
    refine h.imp_right fun hr => Bool.eq_false_iff.mpr fun hs => ?_
    obtain ⟨r, hsteady⟩ := isSteady_iff.mp hs
    exact hr r hsteady
  exact if_pos hblocked

/-- The converter may be granted now: it is IDLE, and no switch is taken or settling (01 R15). -/
theorem grantable (hf : s.inFlight = none) (hr : s.reference.state = .steady r false) :
    ¬ (s.inFlight.isSome || !s.reference.state.isSteady) = true := by
  simp [hf, isSteady_iff.mpr ⟨r, hr⟩]

theorem arbitrate_slot {before after : List ActiveSlot} {a : ActiveSlot} (hf : s.inFlight = none)
    (hr : s.reference.state = .steady r false) (hplan : s.activePlan = before ++ a :: after)
    (hbefore : ∀ x ∈ before, x.progress ≠ .pending) (ha : a.progress = .pending) : arbitrate s = grantSlot a s := by
  have hskip : (before.find? fun x => x.progress == .pending) = none :=
    List.find?_eq_none.mpr fun x hx => by simpa using hbefore x hx
  have hfind : (s.activePlan.find? fun x => x.progress == .pending) = some a := by
    rw [hplan, List.find?_append, hskip, Option.none_or]
    refine List.find?_cons_of_pos ?_
    simp [ha]
  unfold arbitrate
  rw [if_neg (grantable hf hr), hfind]

theorem arbitrate_onDemand (hf : s.inFlight = none) (hr : s.reference.state = .steady r false)
    (hnone : ∀ x ∈ s.activePlan, x.progress ≠ .pending) : arbitrate s = offerOnDemand s (offerOrder s.pointer) := by
  have hfind : (s.activePlan.find? fun x => x.progress == .pending) = none :=
    List.find?_eq_none.mpr fun x hx => by simpa using hnone x hx
  unfold arbitrate
  rw [if_neg (grantable hf hr), hfind]

/-- The head of the port's queue may not be granted now (01 R18). -/
def noGrantableHead (s : State) (p : Port) : Prop :=
  ∀ e rest, look s.requests p = e :: rest → isOpen s p = true →
    fits s (occupancy e.resolution e.sampleTicks e.averaging) = false

theorem grantableHead_eq_none (h : noGrantableHead s p) : grantableHead s p = none := by
  unfold grantableHead
  cases hq : look s.requests p with
  | nil => rfl
  | cons e rest =>
    refine if_neg fun hgrant => ?_
    obtain ⟨hopen, hfits⟩ := Bool.and_eq_true_iff.mp hgrant
    exact Bool.false_ne_true ((h e rest hq hopen).symm.trans hfits)

theorem grantableHead_eq_some (hq : look s.requests p = e :: rest) (ho : isOpen s p = true)
    (hfits : fits s (occupancy e.resolution e.sampleTicks e.averaging) = true) : grantableHead s p = some (e, rest) := by
  unfold grantableHead
  rw [hq]
  exact if_pos (Bool.and_eq_true_iff.mpr ⟨ho, hfits⟩)

theorem offerOnDemand_passes (passed later : List Port) (h : ∀ x ∈ passed, noGrantableHead s x) :
    offerOnDemand s (passed ++ later) = offerOnDemand s later := by
  induction passed with
  | nil => rfl
  | cons x passed ih =>
    obtain ⟨hx, hpassed⟩ := List.forall_mem_cons.mp h
    rw [List.cons_append, offerOnDemand, grantableHead_eq_none hx]
    exact ih hpassed

theorem offerOnDemand_grants (later : List Port) (h : grantableHead s p = some (e, rest)) :
    offerOnDemand s (p :: later) = grantRequest p e rest s := by
  rw [offerOnDemand, h]

end Decision

/-- Settles O47: what blocks a decision, the grant of a slot, and the turn of the heads. -/
theorem arbiterDecision : Obligations.ArbiterDecision := by
  refine ⟨fun before after => (headLeft_iff before after).trans ?_, fun s => ⟨arbitrate_blocked, fun r hf hr =>
    ⟨fun before a after hplan hids hbefore ha hrun => ?_, fun hnone =>
      ⟨fun hpass => ?_, fun passed later p e rest horder hpassed hq ho hfits => ?_⟩⟩⟩⟩
  · refine exists₂_congr fun p e => ⟨fun ⟨hbefore, hafter⟩ => ?_, fun ⟨rest, hbefore, hafter⟩ => ⟨by rw [hbefore]; rfl, hafter⟩⟩
    obtain ⟨rest, hrest⟩ := List.head?_eq_some_iff.mp hbefore
    exact ⟨rest, hrest, hafter⟩
  · have hframe : grantFrame s = s.timebase.frameNumber := if_pos hrun
    have hphase : grantPhase s = s.timebase.elapsed := if_pos hrun
    have hnamed : s.reference.state.named = r := by rw [hr]; rfl
    rw [arbitrate_slot hf hr hplan hbefore ha, grantSlot, hplan, updateSlot_at _ _ _ _ (hplan ▸ hids), slotInFlight,
      hframe, hphase, hnamed]
    rfl
  · rw [arbitrate_onDemand hf hr hnone, ← List.append_nil (offerOrder s.pointer)]
    exact offerOnDemand_passes _ [] fun x _ => hpass x
  · have hnamed : s.reference.state.named = r := by rw [hr]; rfl
    have hoffer : offerOrder s.pointer = passed ++ p :: later := horder
    rw [arbitrate_onDemand hf hr hnone, hoffer, offerOnDemand_passes passed _ hpassed,
      offerOnDemand_grants later (grantableHead_eq_some hq ho hfits), grantRequest, requestInFlight, hnamed]
    rfl

end Sys2Proof.Machine

/-! The end of a conversion: the slot that is DONE, the stages of the delivery, and the settle that begins (01 R10; 03 R54; 05
R107; 07 R128 to R131, R140). -/

namespace Sys2Proof.Machine

section Stages

variable {c : InFlight} {s : State} {m : MonitorId} {r : Monitor}

theorem monitorStage_unmonitored (h : c.monitor = none) : monitorStage c s = s := by
  simp only [monitorStage, namedMonitor, h]

theorem crosses_unmonitored (h : c.monitor = none) : crosses s c = false := by
  simp only [crosses, namedMonitor, h]

theorem namedMonitor_eq_some (h : c.monitor = some m) (hr : look s.monitors m = some r) :
    namedMonitor s c = some (m, r) := by
  simp only [namedMonitor, h, hr, Option.map_some]

/-- The zone of the value of a conversion, for a monitor (08 R151). -/
def valueZone (c : InFlight) (r : Monitor) : Zone := zoneOf r (scaled c.resolution c.value)

theorem crosses_monitored (h : namedMonitor s c = some (m, r)) : crosses s c = reportsCrossing r (valueZone c r) := by
  simp only [crosses, h]
  rfl

theorem monitorStage_monitors (h : namedMonitor s c = some (m, r)) :
    (monitorStage c s).monitors = put s.monitors m (some (classified r (valueZone c r))) := by
  simp only [monitorStage, h]
  rfl

/-- The record that tells the owner of a monitor of a reported crossing (08 R153). -/
def crossing (c : InFlight) (m : MonitorId) (r : Monitor) : EventKind :=
  .monitorCross m r.slot (valueZone c r) (scaled c.resolution c.value)

theorem monitorStage_events (h : namedMonitor s c = some (m, r)) :
    (monitorStage c s).events = if reportsCrossing r (valueZone c r) = true ∧ isOpen s r.owner = true then
        put s.events r.owner (enqueueEvent { kind := crossing c m r, frame := s.timebase.frameNumber } (look s.events r.owner))
      else s.events := by
  have hstage : (monitorStage c s).events = (if reportsCrossing r (valueZone c r) then [(crossing c m r, r.owner)] else []).foldl
      (offeredEvent s.sessions s.timebase.frameNumber) s.events := by
    simp only [monitorStage, h]
    rfl
  rw [hstage]
  by_cases hcross : reportsCrossing r (valueZone c r) = true
  · simp only [hcross, true_and]
    rfl
  · rw [if_neg hcross, if_neg fun hboth => hcross hboth.1]
    rfl

theorem latestStage_unused (h : look s.channels c.channel = .free ∨ look s.channels c.channel = .reference) :
    latestStage c s = s := by
  unfold latestStage
  rcases h with h | h <;> rw [h]

theorem latestStage_used (hfree : look s.channels c.channel ≠ .free) (href : look s.channels c.channel ≠ .reference) :
    latestStage c s = setLatest c.channel (some (latestEntry c)) s := by
  unfold latestStage
  cases hx : look s.channels c.channel with
  | free => exact absurd hx hfree
  | reference => exact absurd hx href
  | digital o d | settling o n due | analog o subs => rfl

theorem latestStage_other {ch : Channel} (h : ch ≠ c.channel) : look (latestStage c s).latest ch = look s.latest ch := by
  by_cases hunused : look s.channels c.channel = .free ∨ look s.channels c.channel = .reference
  · rw [latestStage_unused hunused]
  · obtain ⟨hfree, href⟩ := not_or.mp hunused
    rw [latestStage_used hfree href]
    exact look_put_other _ h _

end Stages

section Delivery

variable (c : InFlight) (s : State)

theorem deliver_monitors : (deliver c s).monitors = (monitorStage c s).monitors := by
  rw [deliver, offerStage_frame, latestStage_frame]

theorem deliver_events : (deliver c s).events = (monitorStage c s).events := by
  rw [deliver, offerStage_frame, latestStage_frame]

/-- The monitor stage changes neither the channels nor the latest values, so the latest-value stage does not see it. -/
theorem deliver_latest : (deliver c s).latest = (latestStage c s).latest := by
  rw [deliver, offerStage_frame, monitorStage_frame, latestStage, latestStage]
  cases look s.channels c.channel <;> rfl

theorem deliver_results : (deliver c s).results = (c.recipients.filter fun x => !x.skipped).foldl
    (fun rs x => offeredResult s.sessions rs (completedRecord c (crosses s c), x.session)) s.results := by
  rw [deliver, latestStage_frame, monitorStage_frame, offerStage, offerResults, List.foldl_map]

end Delivery

section End

variable {c : InFlight} {s : State}

/-- The state in which a conversion has left the converter, its slot DONE and nothing handed over (01 R10, 05 R107). -/
def converterIdle (c : InFlight) (s : State) : State :=
  { s with inFlight := none, activePlan := doneSlot c s.activePlan }

theorem endConversion_discarded (h : c.discard = true) : endConversion c s = beginSettle (converterIdle c s) :=
  congrArg beginSettle (if_pos h)

theorem endConversion_delivered (h : c.discard = false) :
    endConversion c s = beginSettle (deliver c (converterIdle c s)) :=
  congrArg beginSettle (if_neg (Bool.eq_false_iff.mp h))

theorem doneSlot_stands {id : SlotId} (plan : List ActiveSlot) (hsource : c.source = .slot id) (h : c.slotStands = true) :
    doneSlot c plan = plan.map fun a =>
      if a.slot.id = id ∧ a.progress = .inFlight then { a with progress := .done } else a := by
  simp only [doneSlot, hsource, if_pos h, updateSlot]
  refine List.map_congr_left fun a _ => ?_
  by_cases hid : a.slot.id = id
  · simp [hid]
  · simp [hid]

theorem doneSlot_other (plan : List ActiveSlot) (h : (∀ id, c.source ≠ .slot id) ∨ c.slotStands = false) :
    doneSlot c plan = plan := by
  unfold doneSlot
  cases hsource : c.source with
  | request tag => rfl
  | slot id =>
    have hgone : c.slotStands = false := h.resolve_left fun hn => hn id hsource
    exact if_neg (Bool.eq_false_iff.mp hgone)

/-- What the end of a conversion changes besides the hand-over (01 R10). -/
theorem endConversion_frame : endConversion c s = { s with
    inFlight := none, reference := (endConversion c s).reference, activePlan := (endConversion c s).activePlan,
    latest := (endConversion c s).latest, results := (endConversion c s).results,
    monitors := (endConversion c s).monitors, events := (endConversion c s).events } := by
  cases hdiscard : c.discard with
  | true =>
    rw [endConversion_discarded hdiscard, beginSettle_frame]
    rfl
  | false =>
    rw [endConversion_delivered hdiscard, beginSettle_frame, deliver_frame]
    rfl

theorem endConversion_activePlan : (endConversion c s).activePlan = doneSlot c s.activePlan := by
  cases hdiscard : c.discard with
  | true =>
    rw [endConversion_discarded hdiscard, beginSettle_frame]
    rfl
  | false =>
    rw [endConversion_delivered hdiscard, beginSettle_frame, deliver_frame]
    rfl

theorem begun_taken {r : Ref} (h : s.reference.state = .steady r true) :
    s.reference.state.begun = .settling r.other 400 false := by
  rw [h]
  rfl

theorem begun_untaken (h : ∀ r, s.reference.state ≠ .steady r true) : s.reference.state.begun = s.reference.state := by
  rcases hx : s.reference.state with ⟨r, _ | _⟩ | ⟨r, n, due⟩
  · rfl
  · exact absurd hx (h r)
  · rfl

/-- The end of a discarded conversion hands nothing over (01 R10). -/
theorem endConversion_handsNothingOver (h : c.discard = true) :
    (endConversion c s).latest = s.latest ∧ (endConversion c s).results = s.results
      ∧ (endConversion c s).monitors = s.monitors ∧ (endConversion c s).events = s.events := by
  rw [endConversion_discarded h, beginSettle_frame]
  exact ⟨rfl, rfl, rfl, rfl⟩

/-- The end of another conversion hands over what the stages of the delivery leave (07 R129). -/
theorem endConversion_handsOver (h : c.discard = false) :
    (endConversion c s).latest = (latestStage c (converterIdle c s)).latest
      ∧ (endConversion c s).monitors = (monitorStage c (converterIdle c s)).monitors
      ∧ (endConversion c s).events = (monitorStage c (converterIdle c s)).events
      ∧ (endConversion c s).results = (c.recipients.filter fun x => !x.skipped).foldl
          (fun rs x => offeredResult s.sessions rs (completedRecord c (crosses (converterIdle c s) c), x.session))
          s.results := by
  rw [endConversion_delivered h, beginSettle_frame]
  exact ⟨deliver_latest c _, deliver_monitors c _, deliver_events c _, deliver_results c _⟩

end End

/-- Settles O50, by the stages of the delivery at the converter just IDLE. -/
theorem conversionEndDelivers : Obligations.ConversionEndDelivers := by
  refine ⟨rfl, rfl, fun s c hc hdue => ⟨endConversion c s, ?_, ?_, fun r hr => ?_, fun hr => ?_, fun id hid hstands => ?_,
    fun hother => ?_, endConversion_frame, endConversion_handsNothingOver, fun hdiscard => ?_⟩⟩
  · simp only [exec, execConversionEnd, hc, if_pos hdue]
  · rw [endConversion_frame]
  · rw [endConversion_reference, begun_taken hr]
  · rw [endConversion_reference, begun_untaken hr]
  · rw [endConversion_activePlan, doneSlot_stands _ hid hstands]
  · rw [endConversion_activePlan, doneSlot_other _ hother]
  · obtain ⟨hlatest, hmonitors, hevents, hresults⟩ := endConversion_handsOver (s := s) hdiscard
    rw [hlatest, hmonitors, hevents]
    refine ⟨fun ch hch => latestStage_other hch, fun hunused => ?_, fun hfree href => ?_, fun hnone => ?_,
      crosses (converterIdle c s) c, crosses_unmonitored, fun m r hm hr => ?_, hresults⟩
    · rw [latestStage_unused (s := converterIdle c s) hunused]
      rfl
    · rw [latestStage_used (s := converterIdle c s) hfree href]
      exact look_put_same _ _ _
    · rw [monitorStage_unmonitored hnone]
      exact ⟨rfl, rfl⟩
    · have hnamed := namedMonitor_eq_some (s := converterIdle c s) hm hr
      refine ⟨scaled c.resolution c.value, valueZone c r, rfl, rfl, monitorStage_monitors hnamed, crosses_monitored hnamed, ?_⟩
      rw [crosses_monitored hnamed, monitorStage_events hnamed]
      rfl

end Sys2Proof.Machine
